-- ==== Sys2Proof/Word.lean ====
section
/-! DEFINITION. The word types of the block: 32-bit register words (R34), 16-bit coordinates and 8-bit bytes (R12). -/

namespace Sys2Proof

/-- `u32`: a host register or an image address (R12, R34, R71). -/
abbrev Word := BitVec 32

/-- `u16`: a native coordinate (R41, R207). -/
abbrev Half := BitVec 16

/-- `u8`: a command byte, a data byte or an image byte (R12). -/
abbrev Byte := BitVec 8

end Sys2Proof
end

