-- ==== Sys2Proof/Config.lean ====
section
/-! DEFINITION. The parameters of an instance of the block (R5), the suggested instance, and the vendor's table bytes, which
the spec leaves OPEN. -/

namespace Sys2Proof

/-- LUT_BODY_BYTES (R5): the bytes of the table that go out in the one bulk frame. -/
def lutBodyBytes : Nat := 153

/-- The parameters of R5, one field each. "A model takes each one as an argument; none can be changed by the host": the
machine carries them as a constant of its state (log entry 1), so a statement about every state is a statement about every
instance. The byte counts R5 and R6 fix (LUT_BYTES = 159, and 3, 2 and 10) are in the types. The derived parameter IMG_BYTES is
`Params.imgBytes`. -/
structure Params where
  /-- WIDTH, the native x extent in pixels (R7). -/
  width : Nat
  /-- HEIGHT, the native y extent in rows (R7). -/
  height : Nat
  /-- LUT_FULL (OPEN; R51, R160). -/
  lutFull : Vector Byte 159
  /-- LUT_PARTIAL (OPEN; R51, R160). -/
  lutPartial : Vector Byte 159
  /-- RESET_HI1_MS. -/
  resetHi1Ms : Nat
  /-- RESET_LO_MS. -/
  resetLoMs : Nat
  /-- RESET_HI2_MS. -/
  resetHi2Ms : Nat
  /-- SHORT_LO_MS. -/
  shortLoMs : Nat
  /-- SHORT_HI_MS. -/
  shortHiMs : Nat
  /-- BUSY_POLL_MS. -/
  busyPollMs : Nat
  /-- BUSY_TIMEOUT_POLLS: `none` is NONE (R142). -/
  busyTimeoutPolls : Option Nat
  /-- SLEEP_SETTLE_MS (OPEN). -/
  sleepSettleMs : Nat
  /-- DEEP_SLEEP_DATA (OPEN). -/
  deepSleepData : Option Byte
  /-- DRV_OUT_CTRL_DATA (OPEN). -/
  drvOutCtrlData : Vector Byte 3
  /-- DATA_ENTRY_MODE (OPEN). -/
  dataEntryMode : Byte
  /-- DISP_UPD_CTRL1_DATA (OPEN). -/
  dispUpdCtrl1Data : Vector Byte 2
  /-- BORDER_WAVEFORM_DATA (OPEN). -/
  borderWaveformData : Byte
  /-- PARTIAL_OPT_CMD (OPEN; R190). -/
  partialOptCmd : Byte
  /-- PARTIAL_OPT_DATA (OPEN). -/
  partialOptData : Vector Byte 10
  /-- PARTIAL_PULSE_BEFORE_LUT (R218). -/
  partialPulseBeforeLut : Bool
  /-- PARTIAL_OPT_BEFORE_BORDER (R218). -/
  partialOptBeforeBorder : Bool
  /-- CLK_HZ (OPEN): read by the delay timer only (R144). -/
  clkHz : Nat
  /-- SCLK_HZ (OPEN): carried because R5 lists it; no rule of the model reads it (R127). -/
  sclkHz : Nat
  /-- REG_BASE (OPEN): the platform address of the register window (R34, R77). -/
  regBase : Word
  /-- BUSY_SYNC_STAGES (R140). -/
  busySyncStages : Nat
  deriving DecidableEq, Repr

/-- IMG_BYTES = HEIGHT * (WIDTH / 8) (R5, R6). -/
def Params.imgBytes (p : Params) : Nat := p.height * (p.width / 8)

/-- Byte `k` of the vendor's FULL table. The spec gives no byte of it ("supplied by the panel vendor", R160, R166), so it
has no body and no proof can learn its value (log entry 2). -/
opaque vendorLutFullByte : Nat → BitVec 8

/-- Byte `k` of the vendor's PARTIAL table, open like `vendorLutFullByte` (log entry 2). -/
opaque vendorLutPartialByte : Nat → BitVec 8

/-- The default panel, 128 × 296, with the suggested parameters of R5 (log entry 1 for the values taken from outside the
source, entry 2 for the tables, entry 3 for CLK_HZ, SCLK_HZ and REG_BASE, for which the spec suggests nothing). -/
def Params.suggested : Params where
  width := 128
  height := 296
  lutFull := Vector.ofFn fun k => vendorLutFullByte k.val
  lutPartial := Vector.ofFn fun k => vendorLutPartialByte k.val
  resetHi1Ms := 50
  resetLoMs := 2
  resetHi2Ms := 50
  shortLoMs := 2
  shortHiMs := 2
  busyPollMs := 10
  busyTimeoutPolls := none
  sleepSettleMs := 2000
  deepSleepData := some 0x01#8
  drvOutCtrlData := #v[0x27#8, 0x01#8, 0x00#8]
  dataEntryMode := 0x07#8
  dispUpdCtrl1Data := #v[0x00#8, 0x80#8]
  borderWaveformData := 0x80#8
  partialOptCmd := 0x37#8
  partialOptData := #v[0x00#8, 0x00#8, 0x00#8, 0x00#8, 0x00#8, 0x40#8, 0x00#8, 0x00#8, 0x00#8, 0x00#8]
  partialPulseBeforeLut := false
  partialOptBeforeBorder := false
  clkHz := 1000
  sclkHz := 1000000
  regBase := 0#32
  busySyncStages := 2

end Sys2Proof
end

