-- ==== Sys2Proof/Syntax.lean ====
section
/-! DEFINITION. The two instruction languages of the block, one constructor for each row of spec/opcode_table.json, and the
host's bus accesses. -/

namespace Sys2Proof

/-- The thirty instructions. The first ten are the host operations, the OP codes of a word written to CMD (R92). The other
twenty are the command bytes the sequencer gives the framer (R95, R170). No row of the table has an operand field: a host
operation takes its arguments from the argument registers (R90), and a panel command from the procedure that sends it (R106). -/
inductive Instr where
  /-- RESET, OP 0x1 (R211). -/
  | reset
  /-- INIT, OP 0x2 (R212). -/
  | init
  /-- SET_WINDOW, OP 0x3 (R213). -/
  | setWindow
  /-- SET_CURSOR, OP 0x4 (R214). -/
  | setCursor
  /-- SET_LUT, OP 0x5 (R215). -/
  | setLut
  /-- DISPLAY, OP 0x6 (R216). -/
  | display
  /-- DISPLAY_BASE, OP 0x7 (R217). -/
  | displayBase
  /-- DISPLAY_PARTIAL, OP 0x8 (R218). -/
  | displayPartial
  /-- CLEAR, OP 0x9 (R219). -/
  | clear
  /-- SLEEP, OP 0xA (R220). -/
  | sleep
  /-- SWRESET, 0x12 (R171). -/
  | swReset
  /-- DRIVER_OUTPUT_CONTROL, 0x01 (R172). -/
  | driverOutputControl
  /-- DATA_ENTRY_MODE, 0x11 (R173). -/
  | dataEntryMode
  /-- RAM_WINDOW_X, 0x44 (R174). -/
  | ramWindowX
  /-- RAM_WINDOW_Y, 0x45 (R175). -/
  | ramWindowY
  /-- RAM_CURSOR_X, 0x4E (R176). -/
  | ramCursorX
  /-- RAM_CURSOR_Y, 0x4F (R177). -/
  | ramCursorY
  /-- DISPLAY_UPDATE_CONTROL_1, 0x21 (R178). -/
  | displayUpdateControl1
  /-- DISPLAY_UPDATE_CONTROL_2, 0x22 (R179). -/
  | displayUpdateControl2
  /-- WRITE_RAM_BW, 0x24 (R180). -/
  | writeRamBw
  /-- WRITE_RAM_RED, 0x26 (R181). -/
  | writeRamRed
  /-- MASTER_ACTIVATION, 0x20 (R182). -/
  | masterActivation
  /-- WRITE_LUT, 0x32 (R183). -/
  | writeLut
  /-- LUT_END_OPTION, 0x3F (R184). -/
  | lutEndOption
  /-- GATE_VOLTAGE, 0x03 (R185). -/
  | gateVoltage
  /-- SOURCE_VOLTAGE, 0x04 (R186). -/
  | sourceVoltage
  /-- WRITE_VCOM, 0x2C (R187). -/
  | writeVcom
  /-- BORDER_WAVEFORM, 0x3C (R188). -/
  | borderWaveform
  /-- DEEP_SLEEP, 0x10 (R189). -/
  | deepSleep
  /-- PARTIAL_OPT, the parameter PARTIAL_OPT_CMD (R190). -/
  | partialOpt
  deriving DecidableEq, Repr

/-- The width of a host bus access (R72). -/
inductive AccessSize where
  | byte
  | half
  | word
  | double
  deriving DecidableEq, Repr

/-- One access of the host to the register window: a write of `data` or a read, at a bus address (R72). -/
structure Access where
  write : Bool
  size : AccessSize
  addr : Word
  data : Word
  deriving DecidableEq, Repr

end Sys2Proof
end

