-- ==== Sys2Proof/WellFormed.lean ====
section
/-! DEFINITION. The checks: an instance within the bounds of R6 and R190, a command byte the instance may have, and the host
accesses that R72 defines. -/

namespace Sys2Proof

/-- The 19 command bytes of R170 other than PARTIAL_OPT_CMD. -/
def fixedCommandBytes : List Byte :=
  [0x12#8, 0x01#8, 0x11#8, 0x44#8, 0x45#8, 0x4E#8, 0x4F#8, 0x21#8, 0x22#8, 0x24#8, 0x26#8, 0x20#8, 0x32#8, 0x3F#8,
    0x03#8, 0x04#8, 0x2C#8, 0x3C#8, 0x10#8]

/-- R190: "PARTIAL_OPT_CMD must be a byte outside the other 19 command bytes". -/
def optCommandOk (optCmd : Byte) : Bool := !fixedCommandBytes.contains optCmd

/-- R6, R190 and "NONE or Nat ≥ 1" of R5: "An instance outside these bounds is refused by the model". R6's 159 bytes a table are
the type of the two tables, so an instance without them cannot be written (log entry 23). -/
def Params.valid (p : Params) : Bool :=
  p.width % 8 == 0 && decide (8 ≤ p.width) && decide (p.width ≤ 2048)
    && decide (1 ≤ p.height) && decide (p.height ≤ 65535)
    && p.busyTimeoutPolls != some 0
    && optCommandOk p.partialOptCmd

/-- Only PARTIAL_OPT has a condition: its command byte is the instance's, and must be none of the other 19 (R190). -/
def Instr.wf (optCmd : Byte) : Instr → Bool
  | .partialOpt => optCommandOk optCmd
  | _ => true

/-- The offset of a bus address from REG_BASE (R34, R77; modulo 2^32, log entry 20). -/
def Access.offset (p : Params) (a : Access) : Nat := (a.addr - p.regBase).toNat

/-- R72: a host access is defined "only when it is a 32-bit read or write at an offset from REG_BASE that is a multiple of 4
and below 0x40". -/
def Access.wf (p : Params) (a : Access) : Bool :=
  a.size == .word && a.offset p % 4 == 0 && decide (a.offset p < 0x40)

end Sys2Proof
end

