-- ==== Sys2Proof/Decode.lean ====
section
/-! DEFINITION. The decoder of the two languages, total on every host word and every command byte, the encoder, and the
reading of a row of spec/opcode_table.json. -/

namespace Sys2Proof

/-- An encoded instruction: a 32-bit word written to CMD (R90, R91), or the one byte of a CMD frame (R94). -/
inductive Code where
  | hostWord (w : Word)
  | commandByte (b : Byte)
  deriving DecidableEq, Repr

/-- Why a code is no instruction. -/
inductive DecodeError where
  /-- OP 0x0 or 0xB to 0xF: reserved (R93). -/
  | reservedOp (op : BitVec 4)
  /-- A command byte outside the table of R95: never sent and without meaning (R102). -/
  | unknownCommand (b : Byte)
  deriving DecidableEq, Repr

/-- OP = word[3:0]; bits [31:4] are ignored (R91). -/
def opField (w : Word) : BitVec 4 := w.extractLsb' 0 4

/-- The rows of R92. -/
def hostOpOf (op : BitVec 4) : Option Instr :=
  match op.toNat with
  | 0x1 => some .reset
  | 0x2 => some .init
  | 0x3 => some .setWindow
  | 0x4 => some .setCursor
  | 0x5 => some .setLut
  | 0x6 => some .display
  | 0x7 => some .displayBase
  | 0x8 => some .displayPartial
  | 0x9 => some .clear
  | 0xA => some .sleep
  | _ => none

/-- The rows of R95 whose byte the spec fixes. -/
def commandOf (b : Byte) : Option Instr :=
  match b.toNat with
  | 0x12 => some .swReset
  | 0x01 => some .driverOutputControl
  | 0x11 => some .dataEntryMode
  | 0x44 => some .ramWindowX
  | 0x45 => some .ramWindowY
  | 0x4E => some .ramCursorX
  | 0x4F => some .ramCursorY
  | 0x21 => some .displayUpdateControl1
  | 0x22 => some .displayUpdateControl2
  | 0x24 => some .writeRamBw
  | 0x26 => some .writeRamRed
  | 0x20 => some .masterActivation
  | 0x32 => some .writeLut
  | 0x3F => some .lutEndOption
  | 0x03 => some .gateVoltage
  | 0x04 => some .sourceVoltage
  | 0x2C => some .writeVcom
  | 0x3C => some .borderWaveform
  | 0x10 => some .deepSleep
  | _ => none

/-- The decoder. `optCmd` is the instance's PARTIAL_OPT_CMD (R190). -/
def decode (optCmd : Byte) : Code → Except DecodeError Instr
  | .hostWord w =>
    match hostOpOf (opField w) with
    | some i => .ok i
    | none => .error (.reservedOp (opField w))
  | .commandByte b =>
    match commandOf b with
    | some i => .ok i
    | none => if b = optCmd then .ok .partialOpt else .error (.unknownCommand b)

/-- The encoder, from the tables of R92 and R95; "a host should write 0" to CMD[31:4] (R91). -/
def encode (optCmd : Byte) : Instr → Code
  | .reset => .hostWord 0x00000001#32
  | .init => .hostWord 0x00000002#32
  | .setWindow => .hostWord 0x00000003#32
  | .setCursor => .hostWord 0x00000004#32
  | .setLut => .hostWord 0x00000005#32
  | .display => .hostWord 0x00000006#32
  | .displayBase => .hostWord 0x00000007#32
  | .displayPartial => .hostWord 0x00000008#32
  | .clear => .hostWord 0x00000009#32
  | .sleep => .hostWord 0x0000000A#32
  | .swReset => .commandByte 0x12#8
  | .driverOutputControl => .commandByte 0x01#8
  | .dataEntryMode => .commandByte 0x11#8
  | .ramWindowX => .commandByte 0x44#8
  | .ramWindowY => .commandByte 0x45#8
  | .ramCursorX => .commandByte 0x4E#8
  | .ramCursorY => .commandByte 0x4F#8
  | .displayUpdateControl1 => .commandByte 0x21#8
  | .displayUpdateControl2 => .commandByte 0x22#8
  | .writeRamBw => .commandByte 0x24#8
  | .writeRamRed => .commandByte 0x26#8
  | .masterActivation => .commandByte 0x20#8
  | .writeLut => .commandByte 0x32#8
  | .lutEndOption => .commandByte 0x3F#8
  | .gateVoltage => .commandByte 0x03#8
  | .sourceVoltage => .commandByte 0x04#8
  | .writeVcom => .commandByte 0x2C#8
  | .borderWaveform => .commandByte 0x3C#8
  | .deepSleep => .commandByte 0x10#8
  | .partialOpt => .commandByte optCmd

/-- The code a row of the opcode table stands for, from its bits and their number. The table writes both languages as plain
numbers, so a number of at most 8 bits that is a panel command byte is read as that byte, and everything else as a CMD word
(log entry 6). -/
def tableCode (optCmd : Byte) (nbits w : Nat) : Code :=
  let v := w % 2 ^ nbits
  if nbits ≤ 8 ∧ ((commandOf (BitVec.ofNat 8 v)).isSome ∨ BitVec.ofNat 8 v = optCmd) then .commandByte (BitVec.ofNat 8 v)
  else .hostWord (BitVec.ofNat 32 v)

/-- The instruction the decoder reads from a row's bits, on the suggested instance. -/
def decodeTableWord (nbits w : Nat) : Option Instr :=
  match decode Params.suggested.partialOptCmd (tableCode Params.suggested.partialOptCmd nbits w) with
  | .ok i => some i
  | .error _ => none

end Sys2Proof
end

