-- ==== Sys2Proof/Machine/State.lean ====
section
/-! DEFINITION. The block's state, all of it (R30, R50, R53), with the environment it reads: the input pins and the host's
pending inputs, the host's image memory, and the record of what came out. Plain data throughout. -/

namespace Sys2Proof.Machine

/-- STATUS.STATE (R40); value 7 is never produced, so it has no constructor. -/
inductive LifeState where
  | uninitialized
  | hardwareReset
  | configuring
  | lutLoaded
  | displaying
  | sleeping
  | fault
  deriving DecidableEq, Repr

/-- STATUS.RESULT (R260); values 7 to 15 are never produced, so they have no constructor. -/
inductive ResultCode where
  | ok
  | noop
  | invalidBufferSize
  | notInitialized
  | transportError
  | hardwareTimeout
  | illegalOp
  deriving DecidableEq, Repr

/-- One of the two waveform tables: LUT_MODE, LUT_SEL.TABLE and the `T` of set_lut (R38, R42, R51). -/
inductive Lut where
  | full
  | part
  deriving DecidableEq, Repr

/-- The kind of a frame: the level of the data/command line (R94). -/
inductive FrameKind where
  | cmd
  | data
  deriving DecidableEq, Repr

/-- The line events (R10). -/
inductive LineEvent where
  | rst (level : Bool)
  | delay (ms : Nat)
  | frame (kind : FrameKind) (bytes : List Byte)
  | poll (sample : Bool)
  deriving DecidableEq, Repr

/-- The data byte after 0x22: no other value than these three is ever sent (R99, R179). -/
inductive Activation where
  /-- 0xC7, full update. -/
  | full
  /-- 0x0F, partial update. -/
  | part
  /-- 0xC0, the partial-mode activation variant. -/
  | partialMode
  deriving DecidableEq, Repr

/-- Where the data bytes of a RAM write come from (R101): the image, or a fill colour. -/
inductive RamSource where
  | image
  | fill (colour : Byte)
  deriving DecidableEq, Repr

/-- The arguments of the procedure that sends a panel command (R106): `set_window(xs, ys, xe, ye)`, `set_cursor(x, y)`,
`set_lut(T)`, the constant of the activation procedure (R99), and `write_image` or `fill`. -/
structure Args where
  xs : Half := 0#16
  ys : Half := 0#16
  xe : Half := 0#16
  ye : Half := 0#16
  x : Half := 0#16
  y : Half := 0#16
  table : Lut := .full
  activation : Activation := .full
  source : RamSource := .image
  deriving DecidableEq, Repr

/-- An entry of an action list (R46). The first four are actions: a reset-line change, a fixed delay, a busy-wait (one action
that repeats, R48) and a panel command, whose CMD frame and DATA frames are one action each. The last two are the pseudocode's
`STATE <- X` and `LUT_MODE <- t`, which take no action of their own. -/
inductive Item where
  | rst (level : Bool)
  | delay (ms : Nat)
  | busyWait
  | cmd (b : Byte) (args : Args)
  | setState (x : LifeState)
  | setLutMode (t : Lut)
  deriving DecidableEq, Repr

/-- The output lines (R50), but for irq_o, which is a function of two registers (R270) and is stored nowhere. -/
structure Lines where
  rstO : Bool
  csO : Bool
  dcO : Bool
  sclkO : Bool
  mosiO : Bool
  imgReq : Bool
  imgAddr : Word
  deriving DecidableEq, Repr

/-- What the outside world does in one block clock: the levels of rst_n, busy_i and tx_err_i, whether the action in progress
is still going on (`stall`: durations are OPEN, R127, R144), the host's access to the register window, and the host's writes
to its own image memory. -/
structure Input where
  rstN : Bool
  busyI : Bool
  txErrI : Bool
  stall : Bool
  access : Option Access
  hostMem : List (Word × Byte)
  deriving DecidableEq, Repr

/-- The host's image memory (R71), as the cells that differ from what an unlisted address reads as. -/
abbrev Memory := List Host.Cell

/-- The block and its environment. -/
structure State where
  /-- The instance's parameters (R5); no step changes them. -/
  cfg : Params
  /-- WIN_X (R41). -/
  winX : Word
  /-- WIN_Y (R41). -/
  winY : Word
  /-- CURSOR (R42). -/
  cursor : Word
  /-- COLOUR[7:0] (R42). -/
  colour : Byte
  /-- LUT_SEL.TABLE (R42). -/
  lutSel : Lut
  /-- IMG_BASE (R44). -/
  imgBase : Word
  /-- IMG_LEN (R44). -/
  imgLen : Word
  /-- IRQ_EN.DONE_IE (R44). -/
  doneIe : Bool
  /-- STATUS.ACTIVE (R37). -/
  active : Bool
  /-- STATUS.LUT_MODE (R38). -/
  lutMode : Lut
  /-- STATUS.STATE (R40). -/
  life : LifeState
  /-- STATUS.RESULT (R39). -/
  result : ResultCode
  /-- STATUS.DONE (R36). -/
  done : Bool
  /-- STATUS.DROPPED (R36). -/
  dropped : Bool
  /-- `op_cur` (R46): the running operation's code; `none` is IDLE. -/
  opCur : Option (BitVec 4)
  /-- `step` (R46): how many actions of the running operation are complete. -/
  stepNo : Nat
  /-- What is left of the running operation's action list, its current entry first (R46; log entry 7). -/
  todo : List Item
  /-- How many frames of the current panel command have been sent (log entry 7). -/
  frameIdx : Nat
  /-- `l_op` (R47). -/
  lOp : BitVec 4
  /-- `l_win_x` (R47). -/
  lWinX : Word
  /-- `l_win_y` (R47). -/
  lWinY : Word
  /-- `l_cursor` (R47). -/
  lCursor : Word
  /-- `l_colour` (R47). -/
  lColour : Byte
  /-- `l_table` (R47). -/
  lTable : Lut
  /-- `l_img_base` (R47). -/
  lImgBase : Word
  /-- `l_img_len` (R47). -/
  lImgLen : Word
  /-- `polls` (R49). -/
  polls : Nat
  /-- Whether the current busy-wait has taken a sample already (R49 starts `polls` at its first; log entry 7). -/
  waiting : Bool
  /-- Whether the delay timer is running (R144). -/
  delayOn : Bool
  /-- The delay timer's down-counter of block clocks (R49, R144). -/
  delayCnt : Nat
  /-- The synchroniser's flip-flops, the one next to busy_i first (R140). -/
  sync : List Bool
  /-- The output lines (R50). -/
  lines : Lines
  /-- The level of rst_n in the clock just run (R50). -/
  rstN : Bool
  /-- The level of busy_i (R50). -/
  busyI : Bool
  /-- The level of tx_err_i (R50). -/
  txErrI : Bool
  /-- What the host bus returned to the last read (R50, R72). -/
  rdata : Word
  /-- The host's image memory (R71). -/
  mem : Memory
  /-- What the outside world will do, one entry a clock, the next one first (log entry 5). -/
  inputs : List Input
  /-- The line events so far, the newest first (R9, R10). -/
  log : List LineEvent
  /-- The addresses of the image reads so far, the newest first (R71). -/
  imgReads : List Word
  deriving DecidableEq, Repr

/-- Why the machine stops with a fault. -/
inductive Fault where
  /-- The sequencer is at a place no action list has: raised by the clock when ACTIVE = 1 and no action is left, and by a panel
  command whose frames are all sent already. Safe: no state that meets the invariant `Inv` raises it, so it hides no behaviour
  (log entry 19). -/
  | sequencerPosition
  deriving DecidableEq, Repr

/-- Why the machine refuses (log entry 26). -/
inductive Refusal where
  /-- An instruction with no meaning yet; no arm answers so now. Safe. -/
  | notModelled (mnemonic : String)
  /-- An instance outside the bounds of R6 and R190: "refused by the model". Raised by every clock of such an instance. Safe:
  the spec names the refusal. -/
  | invalidInstance
  /-- A host access that is not an aligned 32-bit access below offset 0x40: "refused by the model. The model gives it no
  meaning" (R72). Raised by the clock that takes it. Safe: the spec names the refusal. -/
  | undefinedAccess
  /-- A command byte outside the table of R95 in an action list: "this spec gives no meaning to them" (R102). Safe: no state
  that meets the invariant `Inv` raises it. -/
  | unknownCommand
  deriving DecidableEq, Repr

/-- Block reset's values for an instance (R300). The environment's part (memory, pins and inputs, rdata and img_addr) is
log entries 8, 9 and 10. -/
def State.resetOf (p : Params) : State where
  cfg := p
  winX := 0#32
  winY := 0#32
  cursor := 0#32
  colour := 0#8
  lutSel := .full
  imgBase := 0#32
  imgLen := 0#32
  doneIe := false
  active := false
  lutMode := .full
  life := .uninitialized
  result := .ok
  done := false
  dropped := false
  opCur := none
  stepNo := 0
  todo := []
  frameIdx := 0
  lOp := 0#4
  lWinX := 0#32
  lWinY := 0#32
  lCursor := 0#32
  lColour := 0#8
  lTable := .full
  lImgBase := 0#32
  lImgLen := 0#32
  polls := 0
  waiting := false
  delayOn := false
  delayCnt := 0
  sync := List.replicate p.busySyncStages true
  lines := { rstO := false, csO := true, dcO := false, sclkO := false, mosiO := false, imgReq := false, imgAddr := 0#32 }
  rstN := true
  busyI := false
  txErrI := false
  rdata := 0#32
  mem := []
  inputs := []
  log := []
  imgReads := []

/-- The machine right after block reset (R300), for the suggested instance. -/
def State.reset : State := State.resetOf Params.suggested

/-- A run's trace: the line events in the order they happened (R10). -/
def State.trace (s : State) : List LineEvent := s.log.reverse

end Sys2Proof.Machine
end

