-- ==== Sys2Proof/Machine/Flags.lean ====
section
/-! DEFINITION. The flags and codes of STATUS (R36, R54), its write-one-to-clear bits, the busy synchroniser's output (R140)
and the interrupt line (R270). -/

namespace Sys2Proof.Machine

/-- The encoding of STATE (R40). -/
def LifeState.code : LifeState → BitVec 3
  | .uninitialized => 0#3
  | .hardwareReset => 1#3
  | .configuring => 2#3
  | .lutLoaded => 3#3
  | .displaying => 4#3
  | .sleeping => 5#3
  | .fault => 6#3

/-- The encoding of RESULT (R260). -/
def ResultCode.code : ResultCode → BitVec 4
  | .ok => 0#4
  | .noop => 1#4
  | .invalidBufferSize => 2#4
  | .notInitialized => 3#4
  | .transportError => 4#4
  | .hardwareTimeout => 5#4
  | .illegalOp => 6#4

/-- The encoding of LUT_MODE and LUT_SEL.TABLE: 0 = FULL, 1 = PARTIAL (R38, R42). -/
def Lut.bit : Lut → Bool
  | .full => false
  | .part => true

/-- The table a TABLE bit selects (R42). -/
def Lut.ofBit : Bool → Lut
  | false => .full
  | true => .part

/-- `busy_sync`: the last flip-flop's output (R140), which is STATUS.BUSY. -/
def State.busySync (s : State) : Bool := s.sync.getLastD s.busyI

/-- The synchroniser shifts once a clock (R140; log entry 22). -/
def shiftSync (s : State) : State := { s with sync := (s.busyI :: s.sync).take s.cfg.busySyncStages }

/-- STATUS as the host reads it (R36): [13] DROPPED, [12] DONE, [11:8] RESULT, [6:4] STATE, [2] LUT_MODE, [1] BUSY, [0] ACTIVE,
the other bits 0. -/
def statusWord (s : State) : Word :=
  0#18 ++ BitVec.ofBool s.dropped ++ BitVec.ofBool s.done ++ s.result.code ++ 0#1 ++ s.life.code ++ 0#1
    ++ BitVec.ofBool s.lutMode.bit ++ BitVec.ofBool s.busySync ++ BitVec.ofBool s.active

/-- A host write to STATUS changes only DONE and DROPPED: a 1 in bit 12 or 13 clears it, a 0 leaves it (R36). -/
def writeStatus (v : Word) (s : State) : State :=
  { s with done := s.done && !v.getLsbD 12, dropped := s.dropped && !v.getLsbD 13 }

/-- `irq_o = STATUS.DONE & IRQ_EN.DONE_IE`, a level, recomputed every clock (R270). -/
def State.irqO (s : State) : Bool := s.done && s.doneIe

end Sys2Proof.Machine
end

