-- ==== Sys2Proof/Machine/Operands.lean ====
section
/-! DEFINITION. Operand assembly: address bytes (R96, R97), the image index transform (R241), the fields of the latched
arguments (R100), and the data frames of each panel command (R95, R171-R190). -/

namespace Sys2Proof.Machine

/-- R96: an x value goes out as the byte `(x >> 3) & 0xFF`. -/
def xByte (x : Half) : Byte := (x >>> 3).setWidth 8

/-- R97: a y value goes out as `[y & 0xFF, (y >> 8) & 0xFF]`, low byte first. -/
def yBytes (y : Half) : List Byte := [y.setWidth 8, (y >>> 8).setWidth 8]

/-- R241, the closed form, with CB = WIDTH / 8 and H = HEIGHT: the image index of the k-th byte sent after a RAM write. -/
def imageIndex (p : Params) (k : Nat) : Nat :=
  k % p.height + (p.width / 8 - 1 - k / p.height) * p.height

/-- R71: the address of image index `idx`, `(l_img_base + idx) mod 2^32`. -/
def imageAddr (base : Word) (idx : Nat) : Word := base + BitVec.ofNat 32 idx

/-- The bytes of a table (R51). -/
def lutTable (p : Params) : Lut → Vector Byte 159
  | .full => p.lutFull
  | .part => p.lutPartial

/-- `T[0..152]` (R98). -/
def lutBody (p : Params) (t : Lut) : List Byte := (lutTable p t).toList.take lutBodyBytes

/-- The activation data byte (R99). -/
def activationByte : Activation → Byte
  | .full => 0xC7#8
  | .part => 0x0F#8
  | .partialMode => 0xC0#8

/-- The low and the high half of a register: fields [15:0] and [31:16] (R41, R42). -/
def loHalf (w : Word) : Half := w.extractLsb' 0 16

@[inherit_doc loHalf]
def hiHalf (w : Word) : Half := w.extractLsb' 16 16

/-- The arguments of the procedure the sequencer is in: those of the current action's command. -/
def State.args (s : State) : Args :=
  match s.todo with
  | .cmd _ a :: _ => a
  | _ => {}

/-- The data frames that follow a command byte: one frame a byte, one bulk frame, the image or a fill (R95, R101). -/
inductive FrameData where
  | each (bs : List Byte)
  | bulk (bs : List Byte)
  | image
  | fill (colour : Byte)
  deriving DecidableEq, Repr

/-- How many data frames these are (the second column of R95). -/
def FrameData.count (p : Params) : FrameData → Nat
  | .each bs => bs.length
  | .bulk _ => 1
  | .image => p.imgBytes
  | .fill _ => p.imgBytes

/-- The data of 0x44 (R174): `(x_start >> 3) & 0xFF` then `(x_end >> 3) & 0xFF`. -/
def windowXData (a : Args) : FrameData := .each [xByte a.xs, xByte a.xe]

/-- The data of 0x45 (R175): y_start, then y_end, each low byte first. -/
def windowYData (a : Args) : FrameData := .each (yBytes a.ys ++ yBytes a.ye)

/-- The data of 0x4E (R176). -/
def cursorXData (a : Args) : FrameData := .each [xByte a.x]

/-- The data of 0x4F (R177). -/
def cursorYData (a : Args) : FrameData := .each (yBytes a.y)

/-- The data of 0x24 and 0x26 (R101): the image in native order, or IMG_BYTES copies of the colour. -/
def ramData (a : Args) : FrameData :=
  match a.source with
  | .image => .image
  | .fill c => .fill c

/-- The data of 0x04 (R186): VSH, VSH2, VSL. -/
def sourceVoltageData (p : Params) (t : Lut) : FrameData :=
  .each [(lutTable p t)[155], (lutTable p t)[156], (lutTable p t)[157]]

/-- The data of 0x10 (R189): none, or the one byte of DEEP_SLEEP_DATA. -/
def deepSleepFrames (p : Params) : FrameData :=
  match p.deepSleepData with
  | none => .each []
  | some b => .each [b]

end Sys2Proof.Machine
end

