-- ==== Sys2Proof/Machine/Ops.lean ====
section
/-! DEFINITION. The shared operations: image memory, the register file, line events and frames, the end of an operation,
abort, the acceptance of a CMD write, and one step of each kind of action. -/

namespace Sys2Proof.Machine

/-- What a step answers. -/
abbrev Answer := Host.Outcome State Fault Refusal

/-- Go on from a next state; a stop stays. -/
def andThen (o : Answer) (f : State → Answer) : Answer :=
  match o with
  | .next s => f s
  | .fault r => .fault r
  | .refused r => .refused r

/-! ### Image memory (R71) -/

/-- What an image address that nothing has written reads as (log entry 8). -/
def unlistedByte : Byte := 0#8

/-- `img_mem(addr)` (R71). -/
def Memory.read (m : Memory) (a : Nat) : Byte :=
  match m with
  | [] => unlistedByte
  | (k, v) :: r => if k = a then v else Memory.read r a

/-- The host's write of one byte to its own memory; it keeps the canonical form. -/
def Memory.write (m : Memory) (a : Nat) (b : Byte) : Memory :=
  match m with
  | [] => if b = unlistedByte then [] else [(a, b)]
  | (k, v) :: r =>
    if a < k then (if b = unlistedByte then (k, v) :: r else (a, b) :: (k, v) :: r)
    else if a = k then (if b = unlistedByte then r else (a, b) :: r)
    else (k, v) :: Memory.write r a b

/-- Addresses strictly rising from `lo`, inside the 2^32-byte space of R71, and no cell equal to what it reads as unlisted. -/
def Memory.wfFrom (lo : Nat) : Memory → Bool
  | [] => true
  | (k, v) :: r => decide (lo ≤ k) && decide (k < 2 ^ 32) && v != unlistedByte && Memory.wfFrom (k + 1) r

/-- The canonical form. -/
def Memory.wf (m : Memory) : Bool := Memory.wfFrom 0 m

/-- The host's writes of one clock, in order (log entry 25). -/
def Memory.writes (m : Memory) : List (Word × Byte) → Memory
  | [] => m
  | (a, b) :: r => Memory.writes (m.write a.toNat b) r

/-- The levels an image read leaves: img_req fallen again, and the address still on img_addr until the next read or block
reset. The spec says neither; both are the model's choice (DESIGN CHOICE, log entry 29). -/
def afterReadLines (a : Word) (l : Lines) : Lines := { l with imgAddr := a, imgReq := false }

/-- The successive levels of the lines through an image read (R71): the address goes on img_addr and img_req rises, to 1 while
the byte is taken from img_rdata; and it falls before the frame that carries the byte begins (DESIGN CHOICE, log entry 29). -/
def imageReadWave (a : Word) (l : Lines) : List Lines := [{ l with imgAddr := a, imgReq := true }, afterReadLines a l]

/-- `MemRead(addr, 1)` through the image port (R71): the byte of image memory at that moment, one read more in the record, and
the lines left as `imageReadWave` leaves them. When img_req falls, and what img_addr shows between reads, are the model's choice
(DESIGN CHOICE, log entry 29). -/
def imageRead (a : Word) (s : State) : Byte × State :=
  (s.mem.read a.toNat, { s with lines := afterReadLines a s.lines, imgReads := a :: s.imgReads })

/-! ### The register file (R34, R72) -/

/-- GEOMETRY: [15:0] = WIDTH, [31:16] = HEIGHT (R43). -/
def geometryWord (p : Params) : Word := BitVec.ofNat 16 p.height ++ BitVec.ofNat 16 p.width

/-- What a read at an offset returns (R34); CMD and the offsets 0x2C to 0x3C read 0. -/
def readReg (off : Nat) (s : State) : Word :=
  match off with
  | 0x04 => statusWord s
  | 0x08 => s.winX
  | 0x0C => s.winY
  | 0x10 => s.cursor
  | 0x14 => s.colour.setWidth 32
  | 0x18 => (BitVec.ofBool s.lutSel.bit).setWidth 32
  | 0x1C => s.imgBase
  | 0x20 => s.imgLen
  | 0x24 => (BitVec.ofBool s.doneIe).setWidth 32
  | 0x28 => geometryWord s.cfg
  | _ => 0#32

/-- What a write at an offset other than CMD's does (R34): the writable fields take the value; GEOMETRY, the reserved bits and
the offsets 0x2C to 0x3C ignore it. -/
def writeReg (off : Nat) (v : Word) (s : State) : State :=
  match off with
  | 0x04 => writeStatus v s
  | 0x08 => { s with winX := v }
  | 0x0C => { s with winY := v }
  | 0x10 => { s with cursor := v }
  | 0x14 => { s with colour := v.setWidth 8 }
  | 0x18 => { s with lutSel := Lut.ofBit (v.getLsbD 0) }
  | 0x1C => { s with imgBase := v }
  | 0x20 => { s with imgLen := v }
  | 0x24 => { s with doneIe := v.getLsbD 0 }
  | _ => s

/-! ### Line events and frames -/

/-- One line event happens (R10). -/
def emit (e : LineEvent) (s : State) : State := { s with log := e :: s.log }

/-- dc_o's level: 0 for a command, 1 for data (R50, R94). -/
def FrameKind.level : FrameKind → Bool
  | .cmd => false
  | .data => true

/-- The bits of a byte in the order they go out, bit 7 first (R120). -/
def byteBits (b : Byte) : List Bool := [7, 6, 5, 4, 3, 2, 1, 0].map b.getLsbD

/-- The levels of the lines for one bit: mosi_o set, sclk_o raised, sclk_o lowered (R120). -/
def bitWave (l : Lines) (b : Bool) : List Lines :=
  [{ l with mosiO := b, sclkO := false }, { l with mosiO := b, sclkO := true }, { l with mosiO := b, sclkO := false }]

/-- The levels a frame leaves: those between frames, with dc_o as the frame had it (R129). -/
def afterFrameLines (kind : FrameKind) (l : Lines) : Lines :=
  { l with dcO := kind.level, csO := true, sclkO := false, mosiO := false }

/-- The successive levels of the lines through a frame, in the order of R120. -/
def frameWave (kind : FrameKind) (bs : List Byte) (l : Lines) : List Lines :=
  let selected : Lines := { l with dcO := kind.level }
  let asserted : Lines := { selected with csO := false }
  let bits := bs.flatMap byteBits
  let released : Lines := { selected with csO := true, sclkO := false, mosiO := bits.getLastD false }
  [selected, asserted] ++ bits.flatMap (bitWave asserted) ++ [released, afterFrameLines kind l]

/-- `emit Frame(kind, bs)` (R120): one line event, and the lines left as `frameWave` leaves them. -/
def emitFrame (kind : FrameKind) (bs : List Byte) (s : State) : State :=
  { emit (.frame kind bs) s with lines := afterFrameLines kind s.lines }

/-! ### The end of an operation -/

/-- `complete(R)` (R202): RESULT, DONE, ACTIVE and the sequencer position, in one clock. -/
def complete (r : ResultCode) (s : State) : State :=
  { s with
    result := r, done := true, active := false, opCur := none, stepNo := 0, todo := [], frameIdx := 0, waiting := false,
    delayOn := false }

/-- What an abort does, the trap entry (R268): chip-select released, clock and data low, rst_o and dc_o kept, STATE = FAULT,
and the end of the operation with code `e`. There is no handler and nothing to return from (R269). -/
def abort (e : ResultCode) (s : State) : State :=
  complete e { s with life := .fault, lines := { s.lines with csO := true, sclkO := false, mosiO := false } }

/-- Take up an action list: do the `STATE <-` and `LUT_MODE <-` at its head, and stop at the next action; at the list's end the
operation completes with OK (R48 (4), R202; log entry 15). -/
def settle : List Item → State → State
  | [], s => complete .ok s
  | .setState x :: r, s => settle r { s with life := x }
  | .setLutMode t :: r, s => settle r { s with lutMode := t }
  | .rst v :: r, s => { s with todo := .rst v :: r }
  | .delay ms :: r, s => { s with todo := .delay ms :: r }
  | .busyWait :: r, s => { s with todo := .busyWait :: r }
  | .cmd b a :: r, s => { s with todo := .cmd b a :: r }

/-- The current action is complete: `step <- step + 1`, and on to the next (R48 (2), (3)). -/
def finishAction (s : State) : State :=
  settle s.todo.tail { s with stepNo := s.stepNo + 1, frameIdx := 0, waiting := false, delayOn := false }

/-! ### Accepting a CMD write (R35, R45, R48 (1), R263) -/

/-- Whether an OP code is one of R92's. -/
def legalOp (op : BitVec 4) : Bool := (hostOpOf op).isSome

/-- The acceptance table of R203. -/
def accepts (op : BitVec 4) (x : LifeState) : Bool :=
  match op.toNat with
  | 0x1 => true
  | 0x2 => true
  | 0x3 => x == .configuring || x == .lutLoaded
  | 0x4 => x == .configuring || x == .lutLoaded
  | 0x5 => x == .configuring || x == .lutLoaded
  | 0x6 => x == .lutLoaded
  | 0x7 => x == .lutLoaded
  | 0x8 => x == .lutLoaded
  | 0x9 => x == .lutLoaded
  | 0xA => x == .configuring || x == .lutLoaded || x == .fault
  | _ => false

/-- DISPLAY, DISPLAY_BASE and DISPLAY_PARTIAL, which take an image (R263). -/
def isImageOp (op : BitVec 4) : Bool := op == 0x6#4 || op == 0x7#4 || op == 0x8#4

/-- The start checks in their order (R263): the code of the first that fails. -/
def startChecks (op : BitVec 4) (s : State) : Option ResultCode :=
  if !legalOp op then some .illegalOp
  else if !accepts op s.life then some .notInitialized
  else if isImageOp op && s.lImgLen.toNat == 0 then some .noop
  else if isImageOp op && s.lImgLen.toNat != s.cfg.imgBytes then some .invalidBufferSize
  else none

/-- The op code and the arguments are copied, and the sequencer starts (R45, R48 (1)). -/
def latch (op : BitVec 4) (s : State) : State :=
  { s with
    lOp := op, lWinX := s.winX, lWinY := s.winY, lCursor := s.cursor, lColour := s.colour, lTable := s.lutSel,
    lImgBase := s.imgBase, lImgLen := s.imgLen, opCur := some op, stepNo := 0, active := true, frameIdx := 0,
    waiting := false, delayOn := false }

/-- A CMD write with op code `op` whose action list is `plan`: dropped while ACTIVE = 1 (R35); else accepted, legal code or not:
the op code and the arguments are latched (R45; log entry 13) and the start checks run in the same clock, and the first that
fails ends the operation (R263; log entry 14), which for a reserved code is ILLEGAL_OP (R93, R262). -/
def acceptCommand (op : BitVec 4) (plan : State → List Item) (s : State) : State :=
  if s.active then { s with dropped := true }
  else
    let started := latch op s
    match startChecks op started with
    | some r => complete r started
    | none => settle (plan started) started

/-! ### One clock of an action -/

/-- `drive_rst(v)` (R143). -/
def rstAction (v : Bool) (s : State) : State :=
  finishAction (emit (.rst v) { s with lines := { s.lines with rstO := v } })

/-- The fewest block clocks that last `ms` milliseconds: `ceil(ms × CLK_HZ / 1000)` (R144). -/
def delayClocks (p : Params) (ms : Nat) : Nat := (ms * p.clkHz + 999) / 1000

/-- One clock of the delay timer (R144): load it, count it down, and at 0 the delay is over (`atEnd`). -/
def delayTick (ms : Nat) (atEnd : State → State) (s : State) : State :=
  if !s.delayOn then { s with delayOn := true, delayCnt := delayClocks s.cfg ms }
  else if s.delayCnt = 0 then atEnd (emit (.delay ms) { s with delayOn := false })
  else { s with delayCnt := s.delayCnt - 1 }

/-- One clock of the action `delay(ms)` (R144). -/
def delayAction (ms : Nat) (s : State) : State := delayTick ms finishAction s

/-- R142: whether `n` busy samples in one busy-wait are a timeout. -/
def timedOut (p : Params) (n : Nat) : Bool :=
  match p.busyTimeoutPolls with
  | none => false
  | some limit => decide (limit ≤ n)

/-- One clock of a busy-wait (R141): sample busy_sync; idle ends it; busy counts, then times out (R142) or starts the poll
delay, after which it samples again (log entry 16). -/
def busyWaitAction (s : State) : State :=
  if s.delayOn then delayTick s.cfg.busyPollMs id s
  else
    let before := if s.waiting then s.polls else 0
    let sampled := emit (.poll s.busySync) { s with polls := before }
    if s.busySync then
      let counted := { sampled with polls := before + 1, waiting := true }
      if timedOut s.cfg (before + 1) then abort .hardwareTimeout counted
      else delayTick s.cfg.busyPollMs id counted
    else finishAction sampled

/-- The bytes of data frame `k` of a command, and the state after the image read it may take (R101, R243). -/
def dataFrame (d : FrameData) (k : Nat) (s : State) : List Byte × State :=
  match d with
  | .each bs => ([bs.getD k 0#8], s)
  | .bulk bs => (bs, s)
  | .fill c => ([c], s)
  | .image =>
    let got := imageRead (imageAddr s.lImgBase (imageIndex s.cfg k)) s
    ([got.1], got.2)

/-- After a frame, tx_err_i is sampled once (R128; log entry 12): a 1 aborts; else the frame is complete, and either the command's next frame
or the next action follows. `last` is the number of data frames. -/
def afterFrame (last : Nat) (s : State) : State :=
  if s.txErrI then abort .transportError s
  else if s.frameIdx < last then { s with frameIdx := s.frameIdx + 1, stepNo := s.stepNo + 1 }
  else finishAction s

/-- One frame of the panel command with byte `b` and data `d` (R94, R95, R103): first the CMD frame, then its data frames in
order, one a clock. -/
def sendCommand (b : Byte) (d : FrameData) (s : State) : Answer :=
  if s.frameIdx = 0 then .next (afterFrame (d.count s.cfg) (emitFrame .cmd [b] s))
  else if s.frameIdx ≤ d.count s.cfg then
    let got := dataFrame d (s.frameIdx - 1) s
    .next (afterFrame (d.count s.cfg) (emitFrame .data got.1 got.2))
  else .fault .sequencerPosition

/-! ### Block reset and the clock's inputs -/

/-- While rst_n = 0 every piece of block state has its reset value, no DONE is set and no RESULT written, and the trace ends
(R300, R302; log entry 21); what is outside the block stays. -/
def blockReset (s : State) : State :=
  { State.resetOf s.cfg with rstN := s.rstN, busyI := s.busyI, txErrI := s.txErrI, mem := s.mem, inputs := s.inputs }

/-- What the outside world does in the next clock; with nothing pending, every level holds and the host is silent (log entry 5). -/
def State.nextInput (s : State) : Input :=
  match s.inputs with
  | [] => { rstN := s.rstN, busyI := s.busyI, txErrI := s.txErrI, stall := false, access := none, hostMem := [] }
  | i :: _ => i

/-- The next input's levels and memory writes take effect. -/
def State.takeInput (s : State) : State :=
  { s with
    rstN := s.nextInput.rstN, busyI := s.nextInput.busyI, txErrI := s.nextInput.txErrI,
    mem := s.mem.writes s.nextInput.hostMem, inputs := s.inputs.tail }

end Sys2Proof.Machine
end

