-- ==== Sys2Proof/Machine/Procedures.lean ====
section
/-! DEFINITION. The sequencer procedures of R106 and the action list of each host operation, written from the pseudocode of
R146, R147, R161, R205-R220, R243 and R245. -/

namespace Sys2Proof.Machine

/-- R146. -/
def hwResetPulse (p : Params) : List Item :=
  [.rst true, .delay p.resetHi1Ms, .rst false, .delay p.resetLoMs, .rst true, .delay p.resetHi2Ms]

/-- R147. -/
def shortResetPulse (p : Params) : List Item :=
  [.rst false, .delay p.shortLoMs, .rst true, .delay p.shortHiMs]

/-- R207. -/
def setWindowProc (xs ys xe ye : Half) : List Item :=
  [.cmd 0x44#8 { xs := xs, xe := xe }, .cmd 0x45#8 { ys := ys, ye := ye }]

/-- R208. -/
def setCursorProc (x y : Half) : List Item :=
  [.cmd 0x4E#8 { x := x }, .cmd 0x4F#8 { y := y }, .busyWait]

/-- The full window, (0, 0)-(WIDTH - 1, HEIGHT - 1) (R206, R218). -/
def fullWindowProc (p : Params) : List Item :=
  setWindowProc 0#16 0#16 (BitVec.ofNat 16 (p.width - 1)) (BitVec.ofNat 16 (p.height - 1))

/-- R161; LUT_MODE is written after the last frame (R163). -/
def setLutProc (t : Lut) : List Item :=
  [.cmd 0x32#8 { table := t }, .busyWait, .cmd 0x3F#8 { table := t }, .cmd 0x03#8 { table := t },
    .cmd 0x04#8 { table := t }, .cmd 0x2C#8 { table := t }, .setLutMode t]

/-- R205. -/
def resetSeq (p : Params) : List Item :=
  .setState .hardwareReset :: hwResetPulse p ++ [.cmd 0x12#8 {}, .busyWait]

/-- R206. -/
def configureProc (p : Params) : List Item :=
  [.setState .configuring, .cmd 0x01#8 {}, .cmd 0x11#8 {}] ++ fullWindowProc p ++ [.cmd 0x21#8 {}]
    ++ setCursorProc 0#16 0#16

/-- R209, R210 and the 0xC0 preamble of R218: 0x22 with its constant, 0x20, and the busy-wait. -/
def activateProc (v : Activation) : List Item :=
  [.cmd 0x22#8 { activation := v }, .cmd 0x20#8 {}, .busyWait]

/-- R243: `write_image(bank)`. -/
def writeImageProc (bank : Byte) : List Item := [.cmd bank { source := .image }]

/-- R245: `fill(bank, c)`. -/
def fillProc (bank : Byte) (c : Byte) : List Item := [.cmd bank { source := .fill c }]

/-- RESET (R211). -/
def resetPlan (s : State) : List Item := resetSeq s.cfg ++ [.setState .configuring]

/-- INIT (R212). -/
def initPlan (s : State) : List Item :=
  resetSeq s.cfg ++ configureProc s.cfg ++ setLutProc .full ++ [.setState .lutLoaded]

/-- SET_WINDOW (R213), from the latched fields (R100). -/
def setWindowPlan (s : State) : List Item :=
  setWindowProc (loHalf s.lWinX) (loHalf s.lWinY) (hiHalf s.lWinX) (hiHalf s.lWinY)

/-- SET_CURSOR (R214). -/
def setCursorPlan (s : State) : List Item := setCursorProc (loHalf s.lCursor) (hiHalf s.lCursor)

/-- SET_LUT (R215). -/
def setLutPlan (s : State) : List Item := setLutProc s.lTable ++ [.setState .lutLoaded]

/-- DISPLAY (R216). -/
def displayPlan (_s : State) : List Item :=
  .setState .displaying :: writeImageProc 0x24#8 ++ activateProc .full ++ [.setState .lutLoaded]

/-- DISPLAY_BASE (R217, R244). -/
def displayBasePlan (_s : State) : List Item :=
  .setState .displaying :: writeImageProc 0x24#8 ++ writeImageProc 0x26#8 ++ activateProc .full ++ [.setState .lutLoaded]

/-- The LUT load and the short pulse of R218, in the order PARTIAL_PULSE_BEFORE_LUT gives. -/
def partialLoad (p : Params) : List Item :=
  if p.partialPulseBeforeLut then shortResetPulse p ++ setLutProc .part else setLutProc .part ++ shortResetPulse p

/-- `border()` and `opt_seq()` of R218, in the order PARTIAL_OPT_BEFORE_BORDER gives. -/
def partialSetup (p : Params) : List Item :=
  if p.partialOptBeforeBorder then [.cmd p.partialOptCmd {}, .cmd 0x3C#8 {}] else [.cmd 0x3C#8 {}, .cmd p.partialOptCmd {}]

/-- DISPLAY_PARTIAL (R218). -/
def displayPartialPlan (s : State) : List Item :=
  .setState .displaying :: partialLoad s.cfg ++ partialSetup s.cfg ++ activateProc .partialMode ++ fullWindowProc s.cfg
    ++ setCursorProc 0#16 0#16 ++ writeImageProc 0x24#8 ++ activateProc .part ++ [.setState .lutLoaded]

/-- CLEAR (R219). -/
def clearPlan (s : State) : List Item :=
  .setState .displaying :: fillProc 0x24#8 s.lColour ++ fillProc 0x26#8 s.lColour ++ activateProc .full
    ++ [.setState .lutLoaded]

/-- SLEEP (R220). -/
def sleepPlan (s : State) : List Item :=
  [.cmd 0x10#8 {}, .delay s.cfg.sleepSettleMs, .rst false, .setState .sleeping]

end Sys2Proof.Machine
end

