-- ==== Sys2Proof/Machine/HostOps.lean ====
section
/-! DEFINITION. The ten host operations (R211-R220): what a CMD write with each code does in the clock that takes it. The
actions it starts are run by the following clocks, one action at a time (R48, R200). -/

namespace Sys2Proof.Machine

/-- RESET (R211). -/
def execReset (s : State) : Answer := .next (acceptCommand 0x1#4 resetPlan s)

/-- INIT (R212). -/
def execInit (s : State) : Answer := .next (acceptCommand 0x2#4 initPlan s)

/-- SET_WINDOW (R213). -/
def execSetWindow (s : State) : Answer := .next (acceptCommand 0x3#4 setWindowPlan s)

/-- SET_CURSOR (R214). -/
def execSetCursor (s : State) : Answer := .next (acceptCommand 0x4#4 setCursorPlan s)

/-- SET_LUT (R215). -/
def execSetLut (s : State) : Answer := .next (acceptCommand 0x5#4 setLutPlan s)

/-- DISPLAY (R216). -/
def execDisplay (s : State) : Answer := .next (acceptCommand 0x6#4 displayPlan s)

/-- DISPLAY_BASE (R217). -/
def execDisplayBase (s : State) : Answer := .next (acceptCommand 0x7#4 displayBasePlan s)

/-- DISPLAY_PARTIAL (R218). -/
def execDisplayPartial (s : State) : Answer := .next (acceptCommand 0x8#4 displayPartialPlan s)

/-- CLEAR (R219). -/
def execClear (s : State) : Answer := .next (acceptCommand 0x9#4 clearPlan s)

/-- SLEEP (R220). -/
def execSleep (s : State) : Answer := .next (acceptCommand 0xA#4 sleepPlan s)

end Sys2Proof.Machine
end

