-- ==== Sys2Proof/Machine/PanelCommands.lean ====
section
/-! DEFINITION. The twenty panel commands (R171-R190). Each meaning names the command's byte and all of its data frames, and
sends the next of them: a clock of a running command is one frame (R94, R103, R122), the CMD frame when none has been sent. -/

namespace Sys2Proof.Machine

/-- SWRESET: no data (R171). -/
def execSwReset (s : State) : Answer := sendCommand 0x12#8 (.each []) s

/-- DRIVER_OUTPUT_CONTROL: DRV_OUT_CTRL_DATA (R172). -/
def execDriverOutputControl (s : State) : Answer := sendCommand 0x01#8 (.each s.cfg.drvOutCtrlData.toList) s

/-- DATA_ENTRY_MODE: one byte (R173). -/
def execDataEntryMode (s : State) : Answer := sendCommand 0x11#8 (.each [s.cfg.dataEntryMode]) s

/-- RAM_WINDOW_X (R174). -/
def execRamWindowX (s : State) : Answer := sendCommand 0x44#8 (windowXData s.args) s

/-- RAM_WINDOW_Y (R175). -/
def execRamWindowY (s : State) : Answer := sendCommand 0x45#8 (windowYData s.args) s

/-- RAM_CURSOR_X (R176). -/
def execRamCursorX (s : State) : Answer := sendCommand 0x4E#8 (cursorXData s.args) s

/-- RAM_CURSOR_Y (R177). -/
def execRamCursorY (s : State) : Answer := sendCommand 0x4F#8 (cursorYData s.args) s

/-- DISPLAY_UPDATE_CONTROL_1: DISP_UPD_CTRL1_DATA (R178). -/
def execDisplayUpdateControl1 (s : State) : Answer := sendCommand 0x21#8 (.each s.cfg.dispUpdCtrl1Data.toList) s

/-- DISPLAY_UPDATE_CONTROL_2: the activation byte of the procedure that sends it (R179, R99). -/
def execDisplayUpdateControl2 (s : State) : Answer := sendCommand 0x22#8 (.each [activationByte s.args.activation]) s

/-- WRITE_RAM_BW, the first bank: IMG_BYTES bytes (R180, R101). -/
def execWriteRamBw (s : State) : Answer := sendCommand 0x24#8 (ramData s.args) s

/-- WRITE_RAM_RED, the second bank: IMG_BYTES bytes (R181, R101). -/
def execWriteRamRed (s : State) : Answer := sendCommand 0x26#8 (ramData s.args) s

/-- MASTER_ACTIVATION: no data (R182). -/
def execMasterActivation (s : State) : Answer := sendCommand 0x20#8 (.each []) s

/-- WRITE_LUT: T[0..152] in one bulk frame (R183, R98). -/
def execWriteLut (s : State) : Answer := sendCommand 0x32#8 (.bulk (lutBody s.cfg s.args.table)) s

/-- LUT_END_OPTION: T[153] (R184). -/
def execLutEndOption (s : State) : Answer := sendCommand 0x3F#8 (.each [(lutTable s.cfg s.args.table)[153]]) s

/-- GATE_VOLTAGE: T[154] (R185). -/
def execGateVoltage (s : State) : Answer := sendCommand 0x03#8 (.each [(lutTable s.cfg s.args.table)[154]]) s

/-- SOURCE_VOLTAGE: T[155], T[156], T[157] (R186). -/
def execSourceVoltage (s : State) : Answer := sendCommand 0x04#8 (sourceVoltageData s.cfg s.args.table) s

/-- WRITE_VCOM: T[158] (R187). -/
def execWriteVcom (s : State) : Answer := sendCommand 0x2C#8 (.each [(lutTable s.cfg s.args.table)[158]]) s

/-- BORDER_WAVEFORM: one byte (R188). -/
def execBorderWaveform (s : State) : Answer := sendCommand 0x3C#8 (.each [s.cfg.borderWaveformData]) s

/-- DEEP_SLEEP: DEEP_SLEEP_DATA, if there is one (R189). -/
def execDeepSleep (s : State) : Answer := sendCommand 0x10#8 (deepSleepFrames s.cfg) s

/-- PARTIAL_OPT: the parameter PARTIAL_OPT_CMD with PARTIAL_OPT_DATA (R190). -/
def execPartialOpt (s : State) : Answer := sendCommand s.cfg.partialOptCmd (.each s.cfg.partialOptData.toList) s

end Sys2Proof.Machine
end

