-- ==== Sys2Proof/Machine/Dispatch.lean ====
section
/-! DEFINITION. One arm per instruction. -/

namespace Sys2Proof.Machine

def exec (i : Instr) (s : State) : Host.Outcome State Fault Refusal :=
  match i with
  | .reset => Sys2Proof.Machine.execReset s
  | .init => Sys2Proof.Machine.execInit s
  | .setWindow => Sys2Proof.Machine.execSetWindow s
  | .setCursor => Sys2Proof.Machine.execSetCursor s
  | .setLut => Sys2Proof.Machine.execSetLut s
  | .display => Sys2Proof.Machine.execDisplay s
  | .displayBase => Sys2Proof.Machine.execDisplayBase s
  | .displayPartial => Sys2Proof.Machine.execDisplayPartial s
  | .clear => Sys2Proof.Machine.execClear s
  | .sleep => Sys2Proof.Machine.execSleep s
  | .swReset => Sys2Proof.Machine.execSwReset s
  | .driverOutputControl => Sys2Proof.Machine.execDriverOutputControl s
  | .dataEntryMode => Sys2Proof.Machine.execDataEntryMode s
  | .ramWindowX => Sys2Proof.Machine.execRamWindowX s
  | .ramWindowY => Sys2Proof.Machine.execRamWindowY s
  | .ramCursorX => Sys2Proof.Machine.execRamCursorX s
  | .ramCursorY => Sys2Proof.Machine.execRamCursorY s
  | .displayUpdateControl1 => Sys2Proof.Machine.execDisplayUpdateControl1 s
  | .displayUpdateControl2 => Sys2Proof.Machine.execDisplayUpdateControl2 s
  | .writeRamBw => Sys2Proof.Machine.execWriteRamBw s
  | .writeRamRed => Sys2Proof.Machine.execWriteRamRed s
  | .masterActivation => Sys2Proof.Machine.execMasterActivation s
  | .writeLut => Sys2Proof.Machine.execWriteLut s
  | .lutEndOption => Sys2Proof.Machine.execLutEndOption s
  | .gateVoltage => Sys2Proof.Machine.execGateVoltage s
  | .sourceVoltage => Sys2Proof.Machine.execSourceVoltage s
  | .writeVcom => Sys2Proof.Machine.execWriteVcom s
  | .borderWaveform => Sys2Proof.Machine.execBorderWaveform s
  | .deepSleep => Sys2Proof.Machine.execDeepSleep s
  | .partialOpt => Sys2Proof.Machine.execPartialOpt s

end Sys2Proof.Machine
end

