-- ==== Sys2Proof/Machine/Bus.lean ====
section
/-! DEFINITION. What one block clock does: the host's access, then the sequencer's action, then the synchroniser's shift; and
where an instruction is placed so that the next clock runs it. -/

namespace Sys2Proof.Machine

/-- A word written to CMD (R35): the operation its OP field names; a reserved code is ILLEGAL_OP (R93). -/
def writeCmd (w : Word) (s : State) : Answer :=
  match decode s.cfg.partialOptCmd (.hostWord w) with
  | .ok i => exec i s
  | .error _ => .next (acceptCommand (opField w) (fun _ => []) s)

/-- One host access to the register window (R72). -/
def hostAccess (a : Access) (s : State) : Answer :=
  if !a.wf s.cfg then .refused .undefinedAccess
  else if a.write then
    if a.offset s.cfg = 0 then writeCmd a.data s else .next (writeReg (a.offset s.cfg) a.data s)
  else .next { s with rdata := readReg (a.offset s.cfg) s }

/-- The access of this clock, if there is one. -/
def hostPhase (access : Option Access) (s : State) : Answer :=
  match access with
  | none => .next s
  | some a => hostAccess a s

/-- One clock of the running operation's current action (R48, R200). A command byte is decoded and its instruction run. -/
def sequencerAction (s : State) : Answer :=
  match s.todo with
  | .rst v :: _ => .next (rstAction v s)
  | .delay ms :: _ => .next (delayAction ms s)
  | .busyWait :: _ => .next (busyWaitAction s)
  | .cmd b _ :: _ =>
    match decode s.cfg.partialOptCmd (.commandByte b) with
    | .ok i => exec i s
    | .error _ => .refused .unknownCommand
  | _ => .fault .sequencerPosition

/-- The sequencer acts in a clock that began with ACTIVE = 1 (`running`), unless the action in progress takes longer. -/
def sequencerPhase (running stall : Bool) (s : State) : Answer :=
  if running && !stall then sequencerAction s else .next s

/-- One clock with rst_n = 1. The host's access comes first and sees the state at the clock's start, so that a CMD write in the
clock where an operation ends is dropped, and a set of DONE or DROPPED wins over a clear (R36, R271 (3), (4)); the sequencer
acts only if the operation was already running, since the start checks take the clock of acceptance (R48, R263; log entry 24). -/
def runClock (input : Input) (s : State) : Answer :=
  andThen (hostPhase input.access s) fun accessed =>
    andThen (sequencerPhase s.active input.stall accessed) fun acted => .next (shiftSync acted)

/-- One block clock (R48): an instance outside R6 is refused, rst_n = 0 wins over everything (R271 (1), R300; log entry 28), and
else the clock runs. -/
def clock (s : State) : Answer :=
  if !s.cfg.valid then .refused .invalidInstance
  else if !s.nextInput.rstN then .next (blockReset s.takeInput)
  else runClock s.nextInput s.takeInput

/-- A clock in which the outside world keeps every level and rst_n is 1. -/
def State.quietInput (s : State) : Input :=
  { rstN := true, busyI := s.busyI, txErrI := s.txErrI, stall := false, access := none, hostMem := [] }

/-- The host's write of `w` to CMD. -/
def cmdWrite (p : Params) (w : Word) : Access := { write := true, size := .word, addr := p.regBase, data := w }

/-- An operation whose action list holds a command ("Sent by" of R171-R190). -/
def senderOf (b : Byte) : BitVec 4 :=
  match commandOf b with
  | some .writeRamBw => 0x7#4
  | some .writeRamRed => 0x7#4
  | some .displayUpdateControl2 => 0x7#4
  | some .masterActivation => 0x7#4
  | some .borderWaveform => 0x8#4
  | some .deepSleep => 0xA#4
  | none => 0x8#4
  | some _ => 0x2#4

/-- A code placed where the next clock takes its instruction from: a host word as the host's next access, a command byte as the
running operation's next action (log entries 5 and 27). -/
def placeCode (c : Code) (s : State) : State :=
  match c with
  | .hostWord w =>
    { s with inputs := { s.quietInput with stall := true, access := some (cmdWrite s.cfg w) } :: s.inputs }
  | .commandByte b =>
    { s with
      active := true, opCur := some (senderOf b), stepNo := 0, todo := [.cmd b {}], frameIdx := 0, waiting := false,
      delayOn := false, inputs := s.quietInput :: s.inputs }

end Sys2Proof.Machine
end

