-- ==== Sys2Proof/Machine/Step.lean ====
section
/-! DEFINITION. One step of the machine is one block clock. -/

namespace Sys2Proof.Machine

/-- One step (R48, log entry 4). -/
def step (s : State) : Host.Outcome State Fault Refusal := clock s

/-- `s` with a row's instruction placed so that the very next step runs it (log entry 5). -/
def State.withFetchWord (s : State) (nbits w : Nat) : State :=
  placeCode (tableCode s.cfg.partialOptCmd nbits w) s

end Sys2Proof.Machine
end

