-- ==== Sys2Proof/Machine/HostProgram.lean ====
section
/-! DEFINITION. Host programs: the assembler lines of R104, the pseudo-operations of R105, and what the host does with them. -/

namespace Sys2Proof.Machine

/-- The registers by name (R34). -/
inductive RegName where
  | cmd
  | status
  | winX
  | winY
  | cursor
  | colour
  | lutSel
  | imgBase
  | imgLen
  | irqEn
  | geometry
  deriving DecidableEq, Repr

/-- Their offsets (R34). -/
def RegName.offset : RegName → Nat
  | .cmd => 0x00
  | .status => 0x04
  | .winX => 0x08
  | .winY => 0x0C
  | .cursor => 0x10
  | .colour => 0x14
  | .lutSel => 0x18
  | .imgBase => 0x1C
  | .imgLen => 0x20
  | .irqEn => 0x24
  | .geometry => 0x28

/-- A line of a host program (R104): `W NAME, value`, `R NAME`, `WAIT`. `OPNAME` is `W CMD, code`. -/
inductive HostLine where
  | write (r : RegName) (v : Word)
  | read (r : RegName)
  | wait
  deriving DecidableEq, Repr

/-- `xs | xe << 16` (R105). -/
def halves (lo hi : Half) : Word := hi ++ lo

/-- `CALL_INIT` (R105). -/
def callInit : List HostLine := [.write .cmd 0x2#32, .wait]

/-- `CALL_WINDOW xs, ys, xe, ye` (R105). -/
def callWindow (xs ys xe ye : Half) : List HostLine :=
  [.write .winX (halves xs xe), .write .winY (halves ys ye), .write .cmd 0x3#32, .wait]

/-- `CALL_CURSOR x, y` (R105). -/
def callCursor (x y : Half) : List HostLine := [.write .cursor (halves x y), .write .cmd 0x4#32, .wait]

/-- `CALL_LUT t` (R105). -/
def callLut (t : Word) : List HostLine := [.write .lutSel t, .write .cmd 0x5#32, .wait]

/-- `CALL_DISPLAY base, len` (R105). -/
def callDisplay (base len : Word) : List HostLine :=
  [.write .imgBase base, .write .imgLen len, .write .cmd 0x6#32, .wait]

/-- `CALL_BASE base, len` (R105). -/
def callBase (base len : Word) : List HostLine :=
  [.write .imgBase base, .write .imgLen len, .write .cmd 0x7#32, .wait]

/-- `CALL_PARTIAL base, len` (R105). -/
def callPartial (base len : Word) : List HostLine :=
  [.write .imgBase base, .write .imgLen len, .write .cmd 0x8#32, .wait]

/-- `CALL_CLEAR c` (R105). -/
def callClear (c : Word) : List HostLine := [.write .colour c, .write .cmd 0x9#32, .wait]

/-- `CALL_SLEEP` (R105). -/
def callSleep : List HostLine := [.write .cmd 0xA#32, .wait]

/-- The bus address of a register (R34, R104). -/
def regAddr (p : Params) (r : RegName) : Word := p.regBase + BitVec.ofNat 32 r.offset

/-- One clock in which the host makes an access and nothing else changes outside the block. -/
def accessClock (a : Access) (s : State) : Answer :=
  step { s with inputs := { s.quietInput with access := some a } :: s.inputs }

/-- `W NAME, v`. -/
def hostWrite (r : RegName) (v : Word) (s : State) : Answer :=
  accessClock { write := true, size := .word, addr := regAddr s.cfg r, data := v } s

/-- `R NAME`: the value is in `rdata`. -/
def hostRead (r : RegName) (s : State) : Answer :=
  accessClock { write := false, size := .word, addr := regAddr s.cfg r, data := 0#32 } s

/-- `WAIT` (R104): read STATUS until DONE = 1, then `W STATUS, 0x1000`. A host that waits for ever is cut off after `fuel`
reads. -/
def hostWait : Nat → State → Answer
  | 0, s => .next s
  | fuel + 1, s =>
    andThen (hostRead .status s) fun t =>
      if t.rdata.getLsbD 12 then hostWrite .status 0x1000#32 t else hostWait fuel t

/-- One line of a host program. -/
def runLine (fuel : Nat) (l : HostLine) (s : State) : Answer :=
  match l with
  | .write r v => hostWrite r v s
  | .read r => hostRead r s
  | .wait => hostWait fuel s

/-- A host program, line by line; each WAIT makes at most `fuel` reads. -/
def runProgram (fuel : Nat) : List HostLine → State → Answer
  | [], s => .next s
  | l :: r, s => andThen (runLine fuel l s) (runProgram fuel r)

end Sys2Proof.Machine
end

