-- ==== Sys2Proof/Safety.lean ====
section
/-! DEFINITION. What claims are stated in: the action list and the trace an operation is meant to have, the invariant every
clock keeps, and the parts of a state that a step leaves alone. -/

namespace Sys2Proof.Machine

/-! ### What an operation is meant to send -/

/-- R95: the data frames after each command. -/
def dataOf (p : Params) (a : Args) : Instr → FrameData
  | .driverOutputControl => .each p.drvOutCtrlData.toList
  | .dataEntryMode => .each [p.dataEntryMode]
  | .ramWindowX => .each [xByte a.xs, xByte a.xe]
  | .ramWindowY => .each (yBytes a.ys ++ yBytes a.ye)
  | .ramCursorX => .each [xByte a.x]
  | .ramCursorY => .each (yBytes a.y)
  | .displayUpdateControl1 => .each p.dispUpdCtrl1Data.toList
  | .displayUpdateControl2 => .each [activationByte a.activation]
  | .writeRamBw => ramData a
  | .writeRamRed => ramData a
  | .writeLut => .bulk ((lutTable p a.table).toList.take 153)
  | .lutEndOption => .each [(lutTable p a.table)[153]]
  | .gateVoltage => .each [(lutTable p a.table)[154]]
  | .sourceVoltage => .each [(lutTable p a.table)[155], (lutTable p a.table)[156], (lutTable p a.table)[157]]
  | .writeVcom => .each [(lutTable p a.table)[158]]
  | .borderWaveform => .each [p.borderWaveformData]
  | .deepSleep => .each p.deepSleepData.toList
  | .partialOpt => .each p.partialOptData.toList
  | _ => .each []

/-- The data frames after a command byte; a byte outside the table has none. -/
def commandData (p : Params) (b : Byte) (a : Args) : FrameData :=
  match decode p.partialOptCmd (.commandByte b) with
  | .ok i => dataOf p a i
  | .error _ => .each []

/-- The data frames as line events, with the image bytes of `s` (R101, R243, R245). -/
def dataTrace (s : State) : FrameData → List LineEvent
  | .each bs => bs.map fun b => .frame .data [b]
  | .bulk bs => [.frame .data bs]
  | .fill c => List.replicate s.cfg.imgBytes (.frame .data [c])
  | .image =>
    (List.range s.cfg.imgBytes).map fun k =>
      .frame .data [s.mem.read (imageAddr s.lImgBase (imageIndex s.cfg k)).toNat]

/-- The line events of one entry of an action list, when every busy sample reads idle and no frame fails. -/
def itemTrace (s : State) : Item → List LineEvent
  | .rst v => [.rst v]
  | .delay ms => [.delay ms]
  | .busyWait => [.poll false]
  | .cmd b a => .frame .cmd [b] :: dataTrace s (commandData s.cfg b a)
  | .setState _ => []
  | .setLutMode _ => []

/-- The trace of an action list. -/
def planTrace (s : State) (l : List Item) : List LineEvent := l.flatMap (itemTrace s)

/-- The addresses data frames read (R71, R75 (d), R241). -/
def dataReads (s : State) : FrameData → List Word
  | .image => (List.range s.cfg.imgBytes).map fun k => imageAddr s.lImgBase (imageIndex s.cfg k)
  | _ => []

/-- The addresses an entry of an action list reads. -/
def itemReads (s : State) : Item → List Word
  | .cmd b a => dataReads s (commandData s.cfg b a)
  | _ => []

/-- The addresses an action list reads, in order. -/
def planReads (s : State) (l : List Item) : List Word := l.flatMap (itemReads s)

/-- The action list of each operation (R46), from the latched arguments and the parameters. -/
def planOf (op : BitVec 4) (s : State) : List Item :=
  match hostOpOf op with
  | some .reset => resetPlan s
  | some .init => initPlan s
  | some .setWindow => setWindowPlan s
  | some .setCursor => setCursorPlan s
  | some .setLut => setLutPlan s
  | some .display => displayPlan s
  | some .displayBase => displayBasePlan s
  | some .displayPartial => displayPartialPlan s
  | some .clear => clearPlan s
  | some .sleep => sleepPlan s
  | _ => []

/-- How many actions an entry is (R46): a frame, a reset-line change, a delay and a whole busy-wait are one each. -/
def Item.actions (p : Params) : Item → Nat
  | .cmd b a => 1 + (commandData p b a).count p
  | .setState _ => 0
  | .setLutMode _ => 0
  | _ => 1

/-- The length of an action list (R46). -/
def actionCount (p : Params) (l : List Item) : Nat := (l.map (Item.actions p)).sum

/-! ### The start of an operation -/

/-- R203, row by row: the states that accept an operation. -/
def acceptedIn : Instr → List LifeState
  | .reset => [.uninitialized, .hardwareReset, .configuring, .lutLoaded, .displaying, .sleeping, .fault]
  | .init => [.uninitialized, .hardwareReset, .configuring, .lutLoaded, .displaying, .sleeping, .fault]
  | .setWindow => [.configuring, .lutLoaded]
  | .setCursor => [.configuring, .lutLoaded]
  | .setLut => [.configuring, .lutLoaded]
  | .display => [.lutLoaded]
  | .displayBase => [.lutLoaded]
  | .displayPartial => [.lutLoaded]
  | .clear => [.lutLoaded]
  | .sleep => [.configuring, .lutLoaded, .fault]
  | _ => []

/-- The operations that take an image. -/
def takesImage : Instr → Bool
  | .display => true
  | .displayBase => true
  | .displayPartial => true
  | _ => false

/-- The second column of R201: STATE in the clock after acceptance. -/
def lifeAtStart (i : Instr) (x : LifeState) : LifeState :=
  match i with
  | .reset => .hardwareReset
  | .init => .hardwareReset
  | .display => .displaying
  | .displayBase => .displaying
  | .displayPartial => .displaying
  | .clear => .displaying
  | _ => x

/-- The third column of R201: STATE at completion. -/
def lifeAtEnd (i : Instr) (x : LifeState) : LifeState :=
  match i with
  | .reset => .configuring
  | .init => .lutLoaded
  | .setWindow => x
  | .setCursor => x
  | .sleep => .sleeping
  | _ => .lutLoaded

/-- R204: LUT_MODE at completion. -/
def lutModeAtEnd (i : Instr) (s : State) : Lut :=
  match i with
  | .init => .full
  | .setLut => s.lutSel
  | .displayPartial => .part
  | _ => s.lutMode

/-- The level of rst_o at completion: each reset pulse ends at 1, SLEEP drives 0, the rest leave it. -/
def rstAtEnd (i : Instr) (s : State) : Bool :=
  match i with
  | .reset => true
  | .init => true
  | .displayPartial => true
  | .sleep => false
  | _ => s.lines.rstO

/-- No operation runs, and the start checks of `i` pass: R203's states, and an image of IMG_BYTES bytes (R263). -/
def CanStart (i : Instr) (s : State) : Prop :=
  s.active = false ∧ s.life ∈ acceptedIn i ∧ (takesImage i = true → s.imgLen.toNat = s.cfg.imgBytes)

/-! ### What a step leaves alone -/

/-- The argument registers and IRQ_EN (R31, R44). -/
def sameRegisters (s t : State) : Prop :=
  t.winX = s.winX ∧ t.winY = s.winY ∧ t.cursor = s.cursor ∧ t.colour = s.colour ∧ t.lutSel = s.lutSel
    ∧ t.imgBase = s.imgBase ∧ t.imgLen = s.imgLen ∧ t.doneIe = s.doneIe

/-- The latched copies (R47). -/
def sameLatches (s t : State) : Prop :=
  t.lOp = s.lOp ∧ t.lWinX = s.lWinX ∧ t.lWinY = s.lWinY ∧ t.lCursor = s.lCursor ∧ t.lColour = s.lColour
    ∧ t.lTable = s.lTable ∧ t.lImgBase = s.lImgBase ∧ t.lImgLen = s.lImgLen

/-- The parameters, the image memory, byte by byte, the inputs, the pins, the synchroniser and the bus's read data. -/
def sameOutside (s t : State) : Prop :=
  t.cfg = s.cfg ∧ t.mem = s.mem ∧ (∀ a, t.mem.read a = s.mem.read a) ∧ t.inputs = s.inputs ∧ t.rstN = s.rstN
    ∧ t.busyI = s.busyI ∧ t.txErrI = s.txErrI ∧ t.sync = s.sync ∧ t.rdata = s.rdata

/-- The line trace, the image reads and every line. -/
def sameTrace (s t : State) : Prop := t.log = s.log ∧ t.imgReads = s.imgReads ∧ t.lines = s.lines

/-! ### The invariant -/

/-- R201: the states an operation may show while it runs, with `n` actions complete. The first 8 actions of INIT are its
reset_seq: six of the reset pulse, the frame 0x12 and a busy-wait (R205). -/
def lifeWhile (op : BitVec 4) (n : Nat) (x : LifeState) : Bool :=
  match hostOpOf op with
  | some .reset => x == .hardwareReset
  | some .init => x == if n < 8 then .hardwareReset else .configuring
  | some .setWindow => x == .configuring || x == .lutLoaded
  | some .setCursor => x == .configuring || x == .lutLoaded
  | some .setLut => x == .configuring || x == .lutLoaded
  | some .display => x == .displaying
  | some .displayBase => x == .displaying
  | some .displayPartial => x == .displaying
  | some .clear => x == .displaying
  | some .sleep => x == .configuring || x == .lutLoaded || x == .fault
  | _ => false

/-- The sequencer is at an action, and inside it at a place that action has. -/
def positionOk (s : State) : Bool :=
  match s.todo with
  | .rst _ :: _ => s.frameIdx == 0 && !s.waiting && !s.delayOn
  | .delay _ :: _ => s.frameIdx == 0 && !s.waiting
  | .busyWait :: _ => s.frameIdx == 0 && (s.waiting || !s.delayOn)
  | .cmd b a :: _ => decide (s.frameIdx ≤ (commandData s.cfg b a).count s.cfg) && !s.waiting && !s.delayOn
  | _ => false

/-- While an operation runs: the rest of the action list is what is left of the list its code, the latched arguments and the
parameters fix (R46, R83), and `step` is the number of actions done. -/
def RunningOk (s : State) : Prop :=
  s.opCur = some s.lOp ∧ legalOp s.lOp = true ∧ lifeWhile s.lOp s.stepNo s.life = true ∧ s.todo <:+ planOf s.lOp s
    ∧ positionOk s = true
    ∧ s.stepNo + actionCount s.cfg s.todo = actionCount s.cfg (planOf s.lOp s) + s.frameIdx

/-- While none runs: the sequencer position is IDLE, step 0 (R46), and STATE is a resting state (R40). -/
def IdleOk (s : State) : Prop :=
  s.opCur = none ∧ s.stepNo = 0 ∧ s.todo = [] ∧ s.frameIdx = 0 ∧ s.waiting = false ∧ s.delayOn = false
    ∧ s.life ≠ .hardwareReset ∧ s.life ≠ .displaying

/-- What every clock keeps. -/
structure Inv (s : State) : Prop where
  cfg_valid : s.cfg.valid = true
  mem_wf : s.mem.wf = true
  sync_length : s.sync.length = s.cfg.busySyncStages
  /-- The idle levels between frames (R129), and img_req low at the end of a clock (log entry 29). -/
  lines_idle : s.lines.csO = true ∧ s.lines.sclkO = false ∧ s.lines.mosiO = false ∧ s.lines.imgReq = false
  idle : s.active = false → IdleOk s
  running : s.active = true → RunningOk s

/-! ### The environment of a claim -/

/-- A quiet environment: nothing pending, rst_n released, no transport error, and the panel idle all through the
synchroniser. -/
structure Quiet (s : State) : Prop where
  inputs : s.inputs = []
  rstN : s.rstN = true
  txErrI : s.txErrI = false
  busyI : s.busyI = false
  sync : ∀ b ∈ s.sync, b = false

/-- A panel that stays busy for ever (R148): nothing pending, rst_n released, and busy_i = 1 all through the synchroniser. -/
structure StuckBusy (s : State) : Prop where
  inputs : s.inputs = []
  rstN : s.rstN = true
  busyI : s.busyI = true
  sync : ∀ b ∈ s.sync, b = true

/-- Nothing holds the sequencer up: in every clock to come rst_n is 1, no action takes longer than the model's least, and the
host makes no access. The panel's answers are free. -/
structure Undisturbed (s : State) : Prop where
  rstN : s.rstN = true
  inputs : ∀ x ∈ s.inputs, x.rstN = true ∧ x.stall = false ∧ x.access = none

/-- The sequencer is where it was: same action, same step, the operation still running, with no STATUS field, line or image
read changed. -/
def samePlace (s t : State) : Prop :=
  t.active = true ∧ t.todo = s.todo ∧ t.stepNo = s.stepNo ∧ t.opCur = s.opCur ∧ t.life = s.life ∧ t.lutMode = s.lutMode
    ∧ t.result = s.result ∧ t.done = s.done ∧ t.dropped = s.dropped ∧ t.lines = s.lines ∧ t.imgReads = s.imgReads

/-- In the coming clock the host does not write STATUS with a 1 in bit `n`. -/
def noStatusClear (n : Nat) (s : State) : Prop :=
  ∀ a, s.nextInput.access = some a → a.write = true → a.offset s.cfg = 0x04 → a.data.getLsbD n = false

/-- A line event the block may produce (R10, R102, R170): a CMD frame is one byte of the command table, a DATA frame is not
empty. -/
def eventAllowed (p : Params) : LineEvent → Bool
  | .frame .cmd [b] => fixedCommandBytes.contains b || b == p.partialOptCmd
  | .frame .cmd _ => false
  | .frame .data bs => !bs.isEmpty
  | _ => true

/-- Frames of a panel command in order: `frames` is the CMD frame and then the data frames. When no transport error is
reported, the clock that finds `k` frames sent sends frame `k`, and then either the next frame or the next action is due. -/
def SendsFrames (i : Instr) (frames : List (FrameKind × List Byte)) (s : State) : Prop :=
  ∀ k f, frames[k]? = some f → s.frameIdx = k → s.txErrI = false →
    exec i s = .next
      (if k + 1 < frames.length then
        { emitFrame f.1 f.2 s with frameIdx := k + 1, stepNo := s.stepNo + 1 }
      else finishAction (emitFrame f.1 f.2 s))

end Sys2Proof.Machine
end

