-- ==== Sys2Proof/Certificates/Slice0/Obligations.lean ====
section
/-! DEFINITION. The statements for the provers. -/

open Sys2Proof Sys2Proof.Machine

/-! ### Encoding -/

/-- R91, R92, R95: decoding an encoded instruction gives it back, for every value PARTIAL_OPT_CMD may have; and a CMD word
means its OP field whatever its bits [31:4] are. -/
def Obligations.DecodeEncodeRoundTrip : Prop :=
  ∀ (optCmd : Byte) (i : Instr), i.wf optCmd = true →
    decode optCmd (encode optCmd i) = .ok i
      ∧ ∀ w v : Word, encode optCmd i = .hostWord w → v.extractLsb' 0 4 = w.extractLsb' 0 4 →
        decode optCmd (.hostWord v) = .ok i

/-- R92, R95, R190: a code that decodes is the encoding of what it decodes to, but for the ignored bits of a CMD word; so no
code has two meanings and no instruction two command bytes. -/
def Obligations.DecodedCodeIsTheEncoding : Prop :=
  ∀ (optCmd : Byte) (i : Instr), optCommandOk optCmd = true →
    (∀ w : Word, decode optCmd (.hostWord w) = .ok i → encode optCmd i = .hostWord (w &&& 0xF#32))
      ∧ ∀ b : Byte, decode optCmd (.commandByte b) = .ok i → encode optCmd i = .commandByte b

/-- R91, R92, R93: what a CMD word means is fixed by its bits [3:0] alone: 0x1 to 0xA are the ten operations, and the rest are
reserved. -/
def Obligations.HostWordsDecode : Prop :=
  ∀ (optCmd : Byte) (w : Word),
    (w.toNat % 16 = 0x1 → decode optCmd (.hostWord w) = .ok .reset)
      ∧ (w.toNat % 16 = 0x2 → decode optCmd (.hostWord w) = .ok .init)
      ∧ (w.toNat % 16 = 0x3 → decode optCmd (.hostWord w) = .ok .setWindow)
      ∧ (w.toNat % 16 = 0x4 → decode optCmd (.hostWord w) = .ok .setCursor)
      ∧ (w.toNat % 16 = 0x5 → decode optCmd (.hostWord w) = .ok .setLut)
      ∧ (w.toNat % 16 = 0x6 → decode optCmd (.hostWord w) = .ok .display)
      ∧ (w.toNat % 16 = 0x7 → decode optCmd (.hostWord w) = .ok .displayBase)
      ∧ (w.toNat % 16 = 0x8 → decode optCmd (.hostWord w) = .ok .displayPartial)
      ∧ (w.toNat % 16 = 0x9 → decode optCmd (.hostWord w) = .ok .clear)
      ∧ (w.toNat % 16 = 0xA → decode optCmd (.hostWord w) = .ok .sleep)
      ∧ (w.toNat % 16 = 0x0 ∨ 0xB ≤ w.toNat % 16 →
          decode optCmd (.hostWord w) = .error (.reservedOp (w.extractLsb' 0 4)))

/-- R102, R170: the command bytes that mean anything are exactly the twenty of R170, PARTIAL_OPT_CMD among them. -/
def Obligations.CommandSpace : Prop :=
  ∀ optCmd b : Byte, optCommandOk optCmd = true →
    ((∃ i, decode optCmd (.commandByte b) = .ok i)
      ↔ b ∈ [0x12#8, 0x01#8, 0x11#8, 0x44#8, 0x45#8, 0x4E#8, 0x4F#8, 0x21#8, 0x22#8, 0x24#8, 0x26#8, 0x20#8, 0x32#8,
          0x3F#8, 0x03#8, 0x04#8, 0x2C#8, 0x3C#8, 0x10#8, optCmd])

/-- R92, R95: words written out from the tables (V16, V17, and the command bytes). -/
def Obligations.SampleWordsDecode : Prop :=
  decode 0x37#8 (.hostWord 0x00000002#32) = .ok .init
    ∧ decode 0x37#8 (.hostWord 0xFFFFFFF6#32) = .ok .display
    ∧ decode 0x37#8 (.hostWord 0x0000000A#32) = .ok .sleep
    ∧ decode 0x37#8 (.commandByte 0x12#8) = .ok .swReset
    ∧ decode 0x37#8 (.commandByte 0x4F#8) = .ok .ramCursorY
    ∧ decode 0x37#8 (.commandByte 0x26#8) = .ok .writeRamRed
    ∧ decode 0x37#8 (.commandByte 0x2C#8) = .ok .writeVcom
    ∧ decode 0x37#8 (.commandByte 0x37#8) = .ok .partialOpt

/-- R96, R97: the x byte is `(x >> 3) & 0xFF`, and a y value goes out as its low and its high byte (the
y order is the spec's general-knowledge choice, log entry 18). -/
def Obligations.AddressBytes : Prop :=
  ∀ v : Half,
    (xByte v).toNat = v.toNat / 8 % 256 ∧ (yBytes v).map BitVec.toNat = [v.toNat % 256, v.toNat / 256]

/-! ### Reset -/

/-- R300: what every register reads, what the lines are, the sequencer, the counters and the synchroniser, after block reset, for
every instance; and while rst_n = 0 the next state has the same registers, lines and sequencer, whatever the host accesses, and
a read returns 0. The values of the pins and of img_addr are the model's (log entries 9 and 10) and are not stated. -/
def Obligations.ResetValues : Prop :=
  ∀ p : Params, p.valid = true → 1 ≤ p.busySyncStages →
    let r := State.resetOf p
    statusWord r = 0x00000002#32
      ∧ (∀ off ∈ [0x00, 0x08, 0x0C, 0x10, 0x14, 0x18, 0x1C, 0x20, 0x24], readReg off r = 0#32)
      ∧ readReg 0x28 r = BitVec.ofNat 16 p.height ++ BitVec.ofNat 16 p.width
      ∧ r.opCur = none ∧ r.stepNo = 0 ∧ r.lOp = 0#4 ∧ r.lWinX = 0#32 ∧ r.lWinY = 0#32 ∧ r.lCursor = 0#32
      ∧ r.lColour = 0#8 ∧ r.lTable = .full ∧ r.lImgBase = 0#32 ∧ r.lImgLen = 0#32
      ∧ r.polls = 0 ∧ r.delayCnt = 0 ∧ r.sync = List.replicate p.busySyncStages true
      ∧ r.lines.rstO = false ∧ r.lines.csO = true ∧ r.lines.dcO = false ∧ r.lines.sclkO = false
      ∧ r.lines.mosiO = false ∧ r.lines.imgReq = false ∧ r.irqO = false ∧ r.trace = []
      ∧ ∀ s : State, s.cfg = p → s.nextInput.rstN = false →
          ∃ t, step s = .next t ∧ (∀ off, readReg off t = readReg off r) ∧ t.opCur = r.opCur ∧ t.stepNo = r.stepNo
            ∧ sameLatches r t ∧ t.polls = r.polls ∧ t.delayCnt = r.delayCnt ∧ t.sync = r.sync ∧ t.lines = r.lines
            ∧ t.irqO = r.irqO ∧ t.cfg = p ∧ t.rdata = 0#32

/-- The reset state of every instance within R6 meets the invariant (whose parts that are the model's own StepKeepsInvariant
names: log entries 7 and 29). -/
def Obligations.ResetMeetsInvariant : Prop :=
  ∀ p : Params, p.valid = true → Inv (State.resetOf p)

/-- R271 (1), R302: when rst_n goes to 0, every piece of block state takes its reset value at once, whatever was going on: no
DONE, no RESULT, no line event, the lines at their reset levels and the trace ended; the host's access of that clock does
nothing. -/
def Obligations.BlockResetWins : Prop :=
  ∀ s : State, s.cfg.valid = true → s.nextInput.rstN = false →
    ∃ t, step s = .next t
      ∧ t = { State.resetOf s.cfg with
              rstN := false, busyI := s.nextInput.busyI, txErrI := s.nextInput.txErrI,
              mem := s.mem.writes s.nextInput.hostMem, inputs := s.inputs.tail }
      ∧ t.active = false ∧ t.done = false ∧ t.result = .ok ∧ t.life = .uninitialized ∧ t.trace = []
      ∧ t.lines.csO = true ∧ t.lines.sclkO = false ∧ t.lines.mosiO = false ∧ t.lines.rstO = false

/-- R6: an instance outside the bounds is refused, by every step, and so is one whose PARTIAL_OPT_CMD is another command's byte
(R190); and IMG_BYTES is HEIGHT × (WIDTH / 8), exactly. -/
def Obligations.InstanceOutsideBoundsRefused : Prop :=
  ∀ s : State,
    ((s.cfg.width % 8 ≠ 0 ∨ s.cfg.width < 8 ∨ 2048 < s.cfg.width ∨ s.cfg.height = 0 ∨ 65535 < s.cfg.height
        ∨ s.cfg.partialOptCmd ∈ fixedCommandBytes) →
      step s = .refused .invalidInstance)
      ∧ (s.cfg.width % 8 = 0 → s.cfg.imgBytes * 8 = s.cfg.height * s.cfg.width)

/-! ### The register file -/

/-- R72: an access that is not 32 bits wide, not a multiple of 4, or at 0x40 or above is refused; every other access is not. -/
def Obligations.UndefinedAccessRefused : Prop :=
  ∀ (a : Access) (s : State),
    (hostAccess a s = .refused .undefinedAccess
        ↔ ¬ (a.size = .word ∧ (a.addr - s.cfg.regBase).toNat % 4 = 0 ∧ (a.addr - s.cfg.regBase).toNat < 0x40))
      ∧ (a.size = .word → (a.addr - s.cfg.regBase).toNat % 4 = 0 → (a.addr - s.cfg.regBase).toNat < 0x40 →
        ∃ t, hostAccess a s = .next t)

/-- R34, R35, R43, R72, R75 (c): a read returns the register and changes nothing but what the bus returned; CMD and the
offsets 0x2C to 0x3C read 0. -/
def Obligations.RegisterReads : Prop :=
  ∀ (a : Access) (s : State), a.wf s.cfg = true → a.write = false →
    ∃ v, hostAccess a s = .next { s with rdata := v }
      ∧ (a.offset s.cfg = 0x00 → v = 0#32) ∧ (a.offset s.cfg = 0x04 → v = statusWord s)
      ∧ (a.offset s.cfg = 0x08 → v = s.winX) ∧ (a.offset s.cfg = 0x0C → v = s.winY)
      ∧ (a.offset s.cfg = 0x10 → v = s.cursor) ∧ (a.offset s.cfg = 0x14 → v.toNat = s.colour.toNat)
      ∧ (a.offset s.cfg = 0x18 → v = if s.lutSel = .part then 1#32 else 0#32)
      ∧ (a.offset s.cfg = 0x1C → v = s.imgBase) ∧ (a.offset s.cfg = 0x20 → v = s.imgLen)
      ∧ (a.offset s.cfg = 0x24 → v = if s.doneIe then 1#32 else 0#32)
      ∧ (a.offset s.cfg = 0x28 → v.toNat = s.cfg.width % 65536 + s.cfg.height % 65536 * 65536)
      ∧ (0x2C ≤ a.offset s.cfg → v = 0#32)

/-- R43: GEOMETRY reads WIDTH in [15:0] and HEIGHT in [31:16], a write to it is ignored, no step changes it, and the default
instance reads 0x01280080. -/
def Obligations.GeometryIsConstant : Prop :=
  ∀ s : State, s.cfg.valid = true →
    (readReg 0x28 s).extractLsb' 0 16 = BitVec.ofNat 16 s.cfg.width
      ∧ (readReg 0x28 s).extractLsb' 16 16 = BitVec.ofNat 16 s.cfg.height
      ∧ (readReg 0x28 s).toNat % 65536 * ((readReg 0x28 s).toNat / 65536) = s.cfg.imgBytes * 8
      ∧ (∀ a : Access, a.wf s.cfg = true → a.write = true → a.offset s.cfg = 0x28 → hostAccess a s = .next s)
      ∧ (∀ t, step s = .next t → readReg 0x28 t = readReg 0x28 s)
      ∧ (s.cfg.width = 128 → s.cfg.height = 296 → readReg 0x28 s = 0x01280080#32)

/-- R34, R41, R42, R44, R45, R83: what a written register reads back: the writable bits as written, the reserved bits 0; GEOMETRY
and the offsets 0x2C to 0x3C ignore the write; and nothing but the argument registers and IRQ_EN can change, so that a write
while an operation runs leaves its position, its counters and its latched copies. -/
def Obligations.RegisterWriteReadBack : Prop :=
  ∀ (a : Access) (s : State), a.wf s.cfg = true → a.write = true → a.offset s.cfg ≠ 0 → a.offset s.cfg ≠ 0x04 →
    ∃ t, hostAccess a s = .next t
      ∧ (a.offset s.cfg ∈ [0x08, 0x0C, 0x10, 0x1C, 0x20] → readReg (a.offset s.cfg) t = a.data)
      ∧ (a.offset s.cfg = 0x14 → readReg 0x14 t = a.data &&& 0xFF#32)
      ∧ (a.offset s.cfg = 0x18 → readReg 0x18 t = a.data &&& 1#32)
      ∧ (a.offset s.cfg = 0x24 → readReg 0x24 t = a.data &&& 1#32)
      ∧ (0x28 ≤ a.offset s.cfg → t = s)
      ∧ (∀ off, off ≠ a.offset s.cfg → readReg off t = readReg off s)
      ∧ t = { s with
          winX := t.winX, winY := t.winY, cursor := t.cursor, colour := t.colour, lutSel := t.lutSel,
          imgBase := t.imgBase, imgLen := t.imgLen, doneIe := t.doneIe }

/-- R36, R40, R260: every bit of STATUS, with the number of each STATE and of each result code. -/
def Obligations.StatusLayout : Prop :=
  ∀ s : State,
    (statusWord s).extractLsb' 4 3 = (match s.life with
        | .uninitialized => 0#3 | .hardwareReset => 1#3 | .configuring => 2#3 | .lutLoaded => 3#3 | .displaying => 4#3
        | .sleeping => 5#3 | .fault => 6#3)
      ∧ (statusWord s).extractLsb' 8 4 = (match s.result with
        | .ok => 0#4 | .noop => 1#4 | .invalidBufferSize => 2#4 | .notInitialized => 3#4 | .transportError => 4#4
        | .hardwareTimeout => 5#4 | .illegalOp => 6#4)
      ∧ (statusWord s).getLsbD 0 = s.active ∧ (statusWord s).getLsbD 1 = s.busySync
      ∧ ((statusWord s).getLsbD 2 = true ↔ s.lutMode = .part) ∧ (statusWord s).getLsbD 3 = false
      ∧ (statusWord s).getLsbD 7 = false ∧ (statusWord s).getLsbD 12 = s.done
      ∧ (statusWord s).getLsbD 13 = s.dropped ∧ (statusWord s).extractLsb' 14 18 = 0#18

/-- R36, R75 (b), R270: a host write to STATUS changes only DONE and DROPPED: a 1 clears, a 0 leaves; and a DONE cleared takes
the interrupt line low. -/
def Obligations.StatusWriteClears : Prop :=
  ∀ (a : Access) (s : State), a.wf s.cfg = true → a.write = true → a.offset s.cfg = 0x04 →
    ∃ t, hostAccess a s = .next t
      ∧ t = { s with done := t.done, dropped := t.dropped }
      ∧ (a.data.getLsbD 12 = true → t.done = false ∧ t.irqO = false) ∧ (a.data.getLsbD 12 = false → t.done = s.done)
      ∧ (a.data.getLsbD 13 = true → t.dropped = false) ∧ (a.data.getLsbD 13 = false → t.dropped = s.dropped)

/-! ### Host operations -/

/-- R35, R36: a CMD write while ACTIVE = 1 is dropped, whatever operation it names: it changes nothing but DROPPED. -/
def Obligations.CommandDroppedWhileActive : Prop :=
  ∀ (op : BitVec 4) (i : Instr) (s : State), hostOpOf op = some i → s.active = true →
    exec i s = .next { s with dropped := true }

/-- R45, R48 (1), R201, R203, R263: in a state that accepts it, each of the ten operations starts: it latches its arguments,
shows the STATE of R201, and is at the first action of its action list, with nothing sent yet. -/
def Obligations.AcceptedOperationStarts : Prop :=
  ∀ (op : BitVec 4) (i : Instr) (s : State), hostOpOf op = some i → CanStart i s → (takesImage i = true → s.imgLen ≠ 0#32) →
    ∃ t, exec i s = .next t
      ∧ t.active = true ∧ t.opCur = some op ∧ t.stepNo = 0 ∧ t.frameIdx = 0 ∧ t.life = lifeAtStart i s.life
      ∧ t.lOp = op ∧ t.lWinX = s.winX ∧ t.lWinY = s.winY ∧ t.lCursor = s.cursor ∧ t.lColour = s.colour
      ∧ t.lTable = s.lutSel ∧ t.lImgBase = s.imgBase ∧ t.lImgLen = s.imgLen
      ∧ t.todo <:+ planOf op t ∧ planTrace t t.todo = planTrace t (planOf op t)
      ∧ actionCount t.cfg t.todo = actionCount t.cfg (planOf op t)
      ∧ t.lutMode = s.lutMode ∧ t.result = s.result ∧ t.done = s.done ∧ t.dropped = s.dropped
      ∧ sameRegisters s t ∧ sameOutside s t ∧ sameTrace s t

/-- R203, R264: in any other state the operation completes with NOT_INITIALIZED and no effect beyond that. -/
def Obligations.NotAcceptedOperationReportsNotInitialized : Prop :=
  ∀ (op : BitVec 4) (i : Instr) (s : State), hostOpOf op = some i → s.active = false → s.life ∉ acceptedIn i →
    ∃ t, exec i s = .next t
      ∧ t.result = .notInitialized ∧ t.done = true ∧ t.active = false ∧ t.opCur = none ∧ t.stepNo = 0
      ∧ t.life = s.life ∧ t.lutMode = s.lutMode ∧ t.dropped = s.dropped ∧ t.polls = s.polls ∧ t.delayCnt = s.delayCnt
      ∧ sameRegisters s t ∧ sameOutside s t ∧ sameTrace s t

/-- R261, R263: an image operation in a state that accepts it, with IMG_LEN = 0, is a NOOP: no line event, no image read. -/
def Obligations.EmptyImageIsNoop : Prop :=
  ∀ (op : BitVec 4) (i : Instr) (s : State), hostOpOf op = some i → takesImage i = true → s.active = false →
    s.life = .lutLoaded → s.imgLen = 0#32 →
    ∃ t, exec i s = .next t
      ∧ t.result = .noop ∧ t.done = true ∧ t.active = false ∧ t.opCur = none ∧ t.stepNo = 0
      ∧ t.life = s.life ∧ t.lutMode = s.lutMode ∧ t.dropped = s.dropped ∧ t.polls = s.polls ∧ t.delayCnt = s.delayCnt
      ∧ sameRegisters s t ∧ sameOutside s t ∧ sameTrace s t

/-- R265, R263: an image operation accepted in LUT_LOADED with another length than IMG_BYTES reports INVALID_BUFFER_SIZE
before any traffic. -/
def Obligations.WrongLengthIsInvalidBufferSize : Prop :=
  ∀ (op : BitVec 4) (i : Instr) (s : State), hostOpOf op = some i → takesImage i = true → s.active = false →
    s.life = .lutLoaded → s.imgLen ≠ 0#32 → s.imgLen.toNat ≠ s.cfg.height * (s.cfg.width / 8) →
    ∃ t, exec i s = .next t
      ∧ t.result = .invalidBufferSize ∧ t.done = true ∧ t.active = false ∧ t.opCur = none ∧ t.stepNo = 0
      ∧ t.life = s.life ∧ t.lutMode = s.lutMode ∧ t.dropped = s.dropped ∧ t.polls = s.polls ∧ t.delayCnt = s.delayCnt
      ∧ sameRegisters s t ∧ sameOutside s t ∧ sameTrace s t

/-- R45, R93, R262: a reserved OP code, in every STATE, sets DONE and RESULT = ILLEGAL_OP, makes no line event and changes nothing
else that can be observed; the sequencer position is IDLE, step 0, after it. As every accepted CMD write it copies the op code and
the arguments, which nothing can observe while ACTIVE = 0 (log entry 13). -/
def Obligations.ReservedOpIsIllegalOp : Prop :=
  ∀ (w : Word) (s : State), (w.toNat % 16 = 0 ∨ 11 ≤ w.toNat % 16) → s.active = false → IdleOk s →
    writeCmd w s = .next
      { s with
        result := .illegalOp, done := true, lOp := w.extractLsb' 0 4, lWinX := s.winX, lWinY := s.winY, lCursor := s.cursor,
        lColour := s.colour, lTable := s.lutSel, lImgBase := s.imgBase, lImgLen := s.imgLen }

/-! ### Panel commands -/

/-- R171, R172, R173, R178, R182, R188, R189, R190: the frames of the commands whose data are parameters, or none. That 0x3C has
one data byte is the spec's general-knowledge choice (log entry 18). -/
def Obligations.ParameterCommandFrames : Prop :=
  ∀ s : State,
    SendsFrames .swReset [(.cmd, [0x12#8])] s
      ∧ SendsFrames .driverOutputControl
          [(.cmd, [0x01#8]), (.data, [s.cfg.drvOutCtrlData[0]]), (.data, [s.cfg.drvOutCtrlData[1]]),
            (.data, [s.cfg.drvOutCtrlData[2]])] s
      ∧ SendsFrames .dataEntryMode [(.cmd, [0x11#8]), (.data, [s.cfg.dataEntryMode])] s
      ∧ SendsFrames .displayUpdateControl1
          [(.cmd, [0x21#8]), (.data, [s.cfg.dispUpdCtrl1Data[0]]), (.data, [s.cfg.dispUpdCtrl1Data[1]])] s
      ∧ SendsFrames .masterActivation [(.cmd, [0x20#8])] s
      ∧ SendsFrames .borderWaveform [(.cmd, [0x3C#8]), (.data, [s.cfg.borderWaveformData])] s
      ∧ (s.cfg.deepSleepData = none → SendsFrames .deepSleep [(.cmd, [0x10#8])] s)
      ∧ (∀ b, s.cfg.deepSleepData = some b → SendsFrames .deepSleep [(.cmd, [0x10#8]), (.data, [b])] s)
      ∧ SendsFrames .partialOpt
          ((.cmd, [s.cfg.partialOptCmd]) :: s.cfg.partialOptData.toList.map fun b => (.data, [b])) s

/-- R174-R177, R179, R96, R97, R99: the frames of the window, the cursor and the activation select, from the arguments of the
procedure that sends them. The order of the two y bytes is the spec's general-knowledge choice (log entry 18). -/
def Obligations.ArgumentCommandFrames : Prop :=
  ∀ (s : State) (b : Byte) (a : Args) (r : List Item), s.todo = .cmd b a :: r →
    SendsFrames .ramWindowX
        [(.cmd, [0x44#8]), (.data, [BitVec.ofNat 8 (a.xs.toNat / 8)]), (.data, [BitVec.ofNat 8 (a.xe.toNat / 8)])] s
      ∧ SendsFrames .ramWindowY
          [(.cmd, [0x45#8]), (.data, [BitVec.ofNat 8 a.ys.toNat]), (.data, [BitVec.ofNat 8 (a.ys.toNat / 256)]),
            (.data, [BitVec.ofNat 8 a.ye.toNat]), (.data, [BitVec.ofNat 8 (a.ye.toNat / 256)])] s
      ∧ SendsFrames .ramCursorX [(.cmd, [0x4E#8]), (.data, [BitVec.ofNat 8 (a.x.toNat / 8)])] s
      ∧ SendsFrames .ramCursorY
          [(.cmd, [0x4F#8]), (.data, [BitVec.ofNat 8 a.y.toNat]), (.data, [BitVec.ofNat 8 (a.y.toNat / 256)])] s
      ∧ (a.activation = .full → SendsFrames .displayUpdateControl2 [(.cmd, [0x22#8]), (.data, [0xC7#8])] s)
      ∧ (a.activation = .part → SendsFrames .displayUpdateControl2 [(.cmd, [0x22#8]), (.data, [0x0F#8])] s)
      ∧ (a.activation = .partialMode → SendsFrames .displayUpdateControl2 [(.cmd, [0x22#8]), (.data, [0xC0#8])] s)

/-- R98, R160, R183-R187: the frames of the LUT load: T[0..152] in one bulk frame, then T[153], T[154], T[155..157], T[158],
each after its own command. -/
def Obligations.LutCommandFrames : Prop :=
  ∀ (s : State) (b : Byte) (a : Args) (r : List Item) (T : Vector Byte 159), s.todo = .cmd b a :: r →
    (a.table = .full → T = s.cfg.lutFull) → (a.table = .part → T = s.cfg.lutPartial) →
    SendsFrames .writeLut [(.cmd, [0x32#8]), (.data, T.toList.take 153)] s
      ∧ SendsFrames .lutEndOption [(.cmd, [0x3F#8]), (.data, [T[153]])] s
      ∧ SendsFrames .gateVoltage [(.cmd, [0x03#8]), (.data, [T[154]])] s
      ∧ SendsFrames .sourceVoltage [(.cmd, [0x04#8]), (.data, [T[155]]), (.data, [T[156]]), (.data, [T[157]])] s
      ∧ SendsFrames .writeVcom [(.cmd, [0x2C#8]), (.data, [T[158]])] s

/-- R180, R181, R245: CLEAR's RAM writes: the command byte, then IMG_BYTES frames of the colour. -/
def Obligations.FillCommandFrames : Prop :=
  ∀ (s : State) (b c : Byte) (a : Args) (r : List Item), s.todo = .cmd b a :: r → a.source = .fill c →
    SendsFrames .writeRamBw ((.cmd, [0x24#8]) :: List.replicate (s.cfg.height * (s.cfg.width / 8)) (.data, [c])) s
      ∧ SendsFrames .writeRamRed ((.cmd, [0x26#8]) :: List.replicate (s.cfg.height * (s.cfg.width / 8)) (.data, [c])) s

/-- R71, R101, R180, R181, R241, R243: an image's RAM write. Its CMD frame reads no image byte; frame k + 1 reads the one byte
at (l_img_base + idx(k)) mod 2^32, just then, and sends it. The read first puts that address on img_addr and raises img_req, no
other line moving; that img_req falls before the frame and the address stays are the model's choice (log entry 29). -/
def Obligations.ImageCommandFrames : Prop :=
  ∀ (s : State) (b : Byte) (a : Args) (r : List Item) (i : Instr) (bank : Byte),
    s.todo = .cmd b a :: r → a.source = .image →
    ((i = .writeRamBw ∧ bank = 0x24#8) ∨ (i = .writeRamRed ∧ bank = 0x26#8)) →
    1 ≤ s.cfg.height * (s.cfg.width / 8) → s.txErrI = false →
    (s.frameIdx = 0 →
      exec i s = .next { emitFrame .cmd [bank] s with frameIdx := 1, stepNo := s.stepNo + 1 })
      ∧ ∀ k, s.frameIdx = k + 1 → k < s.cfg.height * (s.cfg.width / 8) →
        ∃ (addr : Word) (u : State),
          addr.toNat = (s.lImgBase.toNat
              + (k % s.cfg.height + (s.cfg.width / 8 - 1 - k / s.cfg.height) * s.cfg.height)) % 2 ^ 32
            ∧ u = emitFrame .data [s.mem.read addr.toNat] (imageRead addr s).2
            ∧ (imageReadWave addr s.lines).head? = some { s.lines with imgAddr := addr, imgReq := true }
            ∧ (imageReadWave addr s.lines).getLast? = some (imageRead addr s).2.lines
            ∧ (imageRead addr s).2.lines = { s.lines with imgAddr := addr, imgReq := false }
            ∧ exec i s = .next
                (if k + 1 < s.cfg.height * (s.cfg.width / 8) then
                  { u with frameIdx := k + 2, stepNo := s.stepNo + 1 }
                else finishAction u)

/-- The frame of all twenty panel commands: whichever frame is sent, no argument register, latched copy, image byte, input,
pin, poll counter or DROPPED changes, rst_o keeps its level, and one event is added to the trace, a frame (R80, R120, R126).
STATE, LUT_MODE, RESULT, DONE, ACTIVE and the running operation change only where the procedure that sends the command goes on
to change them: not when no transport error is reported and a frame of the command, or another action, is next. -/
def Obligations.PanelCommandFrame : Prop :=
  ∀ (b : Byte) (i : Instr) (s t : State), decode s.cfg.partialOptCmd (.commandByte b) = .ok i → exec i s = .next t →
    sameRegisters s t ∧ sameLatches s t ∧ sameOutside s t ∧ t.dropped = s.dropped ∧ t.polls = s.polls
      ∧ t.lines.rstO = s.lines.rstO ∧ (∃ k bs, t.log = .frame k bs :: s.log)
      ∧ (s.txErrI = false →
          (s.frameIdx < (dataOf s.cfg s.args i).count s.cfg ∨ ∃ x r, s.todo.tail = x :: r ∧ x.actions s.cfg ≠ 0) →
          t.life = s.life ∧ t.lutMode = s.lutMode ∧ t.result = s.result ∧ t.done = s.done ∧ t.active = s.active
            ∧ t.opCur = s.opCur)

/-- R128, R266, R268: when tx_err_i reads 1 after a frame of a panel command, that frame has been sent in full, the CMD frame of
the byte or the data frame that was due, with the image read it took, and no further event; and the operation aborts: FAULT,
TRANSPORT_ERROR, DONE, IDLE; LUT_MODE, rst_o, the argument registers and the latched copies keep their values. That dc_o is 0
after a CMD frame and 1 after a DATA frame are the levels of D18, general knowledge (PRESUMED, log entry 17). -/
def Obligations.TransportErrorAborts : Prop :=
  ∀ (b : Byte) (i : Instr) (s : State), decode s.cfg.partialOptCmd (.commandByte b) = .ok i → s.txErrI = true →
    s.frameIdx ≤ (dataOf s.cfg s.args i).count s.cfg →
    ∃ t, exec i s = .next t
      ∧ t.life = .fault ∧ t.result = .transportError ∧ t.done = true ∧ t.active = false ∧ t.opCur = none ∧ t.stepNo = 0
      ∧ t.todo = [] ∧ t.lutMode = s.lutMode ∧ t.lines.rstO = s.lines.rstO ∧ t.lines.csO = true
      ∧ t.lines.sclkO = false ∧ t.lines.mosiO = false ∧ sameRegisters s t ∧ sameLatches s t
      ∧ (s.frameIdx = 0 → t.log = .frame .cmd [b] :: s.log ∧ t.imgReads = s.imgReads ∧ t.lines.dcO = false)
      ∧ ∀ k, s.frameIdx = k + 1 →
          t.log = .frame .data (dataFrame (dataOf s.cfg s.args i) k s).1 :: s.log
            ∧ t.imgReads = (dataFrame (dataOf s.cfg s.args i) k s).2.imgReads ∧ t.lines.dcO = true

/-- R120: through a frame, every bit is on mosi_o at the rising sclk_o edges, bit 7 first, with chip-select low and dc_o at
the frame's kind; and the lines are left at the idle levels of R129. The levels and the bit order are the spec's
general-knowledge choices (log entry 17). -/
def Obligations.FrameWaveSendsBitsMsbFirst : Prop :=
  ∀ (k : FrameKind) (bs : List Byte) (l : Lines), l.sclkO = false →
    ((frameWave k bs l).filter (·.sclkO)).map (·.mosiO)
        = bs.flatMap (fun b => [b.getLsbD 7, b.getLsbD 6, b.getLsbD 5, b.getLsbD 4, b.getLsbD 3, b.getLsbD 2,
            b.getLsbD 1, b.getLsbD 0])
      ∧ (∀ x ∈ frameWave k bs l, x.dcO = k.level ∧ x.rstO = l.rstO ∧ (x.sclkO = true → x.csO = false))
      ∧ (frameWave k bs l).getLast? = some { l with dcO := k.level, csO := true, sclkO := false, mosiO := false }

/-! ### The other actions -/

/-- R143: `drive_rst(v)` sets rst_o and emits Rst(v), and the sequencer goes on to the next action. -/
def Obligations.ResetLineDriven : Prop :=
  ∀ (s : State) (v : Bool) (r : List Item), s.todo = .rst v :: r →
    ∃ t, sequencerAction s = .next t
      ∧ t.log = .rst v :: s.log ∧ t.lines = { s.lines with rstO := v } ∧ t.imgReads = s.imgReads
      ∧ sameRegisters s t ∧ sameLatches s t ∧ sameOutside s t
      ∧ (∀ i r', r = i :: r' → (i = .busyWait ∨ ∃ ms, i = .delay ms) → t.todo = r ∧ t.stepNo = s.stepNo + 1)

/-- R141, R142: one sample of a busy-wait whose poll delay is not running. Idle: one Poll(0), no delay, the action is complete.
Busy: one Poll(1), the count goes up (from 0 at the first sample), and the action stays; when the count reaches
BUSY_TIMEOUT_POLLS the operation aborts with HARDWARE_TIMEOUT instead, before any delay. That the count starts at the first
sample is the model's form of R49 (log entry 16); and R144 has the timer load at least ceil(BUSY_POLL_MS × CLK_HZ / 1000) clocks:
that it loads exactly so many is the model's choice (log entry 11). -/
def Obligations.BusyWaitSample : Prop :=
  ∀ (s : State) (r : List Item), s.todo = .busyWait :: r → s.delayOn = false →
    ∃ t, sequencerAction s = .next t
      ∧ t.log = .poll s.busySync :: s.log ∧ t.imgReads = s.imgReads ∧ (s.busySync = true → t.lutMode = s.lutMode)
      ∧ sameRegisters s t ∧ sameLatches s t ∧ sameOutside s t ∧ t.lines.rstO = s.lines.rstO
      ∧ (s.busySync = false →
          t = finishAction { s with polls := if s.waiting then s.polls else 0, log := .poll false :: s.log })
      ∧ (s.busySync = true → t.polls = (if s.waiting then s.polls else 0) + 1)
      ∧ (s.busySync = true → (∀ n, s.cfg.busyTimeoutPolls = some n → t.polls < n) →
          t.todo = s.todo ∧ t.stepNo = s.stepNo ∧ t.active = s.active ∧ t.done = s.done ∧ t.life = s.life
            ∧ t.result = s.result ∧ t.lines = s.lines ∧ t.waiting = true ∧ t.delayOn = true
            ∧ t.delayCnt = (s.cfg.busyPollMs * s.cfg.clkHz + 999) / 1000)
      ∧ (s.busySync = true → (∃ n, s.cfg.busyTimeoutPolls = some n ∧ n ≤ t.polls) →
          t.life = .fault ∧ t.result = .hardwareTimeout ∧ t.done = true ∧ t.active = false ∧ t.opCur = none
            ∧ t.stepNo = 0 ∧ t.todo = [] ∧ t.lutMode = s.lutMode)

/-- R144: from the clock that starts it, a delay of ms milliseconds lasts at least ceil(ms × CLK_HZ / 1000) clocks, in which
nothing is sent and every line holds; and with no stall it then ends, with the one event Delay(ms). The clock count of its end
is the model's (log entry 11). -/
def Obligations.DelayHoldsTheLines : Prop :=
  ∀ (s : State) (ms : Nat) (r : List Item), s.cfg.valid = true → s.active = true → s.inputs = [] → s.rstN = true →
    s.todo = .delay ms :: r → s.delayOn = false →
    (∀ n, n ≤ (ms * s.cfg.clkHz + 999) / 1000 →
        ∃ t, Host.Core.run Sys2Proof.core (n + 1) s = .next t
          ∧ t.log = s.log ∧ t.lines = s.lines ∧ t.todo = s.todo ∧ t.stepNo = s.stepNo ∧ t.active = true)
      ∧ ∃ t, Host.Core.run Sys2Proof.core ((ms * s.cfg.clkHz + 999) / 1000 + 2) s = .next t
          ∧ t.log = .delay ms :: s.log ∧ t.lines = s.lines

/-- R148, R317: with BUSY_TIMEOUT_POLLS = NONE a busy line that stays 1 hangs the operation: after any number of clocks it is
at the same busy-wait, ACTIVE = 1, and DONE was not set; and it samples as many times as one likes. -/
def Obligations.StuckBusyHangs : Prop :=
  ∀ (s : State) (r : List Item), s.cfg.valid = true → s.active = true → s.cfg.busyTimeoutPolls = none → StuckBusy s →
    s.todo = .busyWait :: r →
    (∀ n, ∃ t, Host.Core.run Sys2Proof.core n s = .next t
      ∧ t.active = true ∧ t.done = s.done ∧ t.todo = s.todo ∧ t.stepNo = s.stepNo
      ∧ t.life = s.life ∧ t.result = s.result ∧ t.lines = s.lines
      ∧ ∃ l, t.log = l ++ s.log ∧ ∀ e ∈ l, e = .poll true ∨ e = .delay s.cfg.busyPollMs)
      ∧ ∀ k, ∃ (n : Nat) (t : State) (l : List LineEvent), Host.Core.run Sys2Proof.core n s = .next t
        ∧ t.log = l ++ s.log ∧ k ≤ l.count (.poll true)

/-- R140: with two stages, what busy_i was is what busy_sync, and STATUS.BUSY, is two clocks later, and not before; and both
flip-flops are 1 after block reset. -/
def Obligations.BusySynchroniserDelaysTwoClocks : Prop :=
  (∀ s t u : State, s.cfg.busySyncStages = 2 → s.sync.length = 2 → s.nextInput.rstN = true → t.nextInput.rstN = true →
    step s = .next t → step t = .next u →
    u.busySync = s.nextInput.busyI ∧ (statusWord u).getLsbD 1 = s.nextInput.busyI ∧ t.busySync = s.sync.headD true)
    ∧ ∀ p : Params, p.busySyncStages = 2 → (State.resetOf p).sync = [true, true] ∧ (State.resetOf p).busySync = true

/-! ### Steps -/

/-- A step runs the decoded instruction, host side: a word the host writes to CMD that decodes to `i` makes the step of an idle
block exec of `i`, after the clock's inputs are taken and before the synchroniser shifts. -/
def Obligations.StepRunsHostOperation : Prop :=
  ∀ (s : State) (a : Access) (i : Instr), s.cfg.valid = true → s.nextInput.rstN = true → s.active = false →
    s.nextInput.access = some a → a.wf s.cfg = true → a.write = true → a.offset s.cfg = 0 →
    decode s.cfg.partialOptCmd (.hostWord a.data) = .ok i →
    step s = andThen (exec i s.takeInput) fun t => .next (shiftSync t)

/-- A step runs the decoded instruction, panel side: when the running operation's next action is the command byte `b`, which
decodes to `i`, and the host is silent, the step is exec of `i`, after the clock's inputs are taken and before the
synchroniser shifts. -/
def Obligations.StepRunsPanelCommand : Prop :=
  ∀ (s : State) (b : Byte) (a : Args) (r : List Item) (i : Instr), s.cfg.valid = true → s.nextInput.rstN = true →
    s.nextInput.access = none → s.nextInput.stall = false → s.active = true → s.todo = .cmd b a :: r →
    decode s.cfg.partialOptCmd (.commandByte b) = .ok i →
    step s = andThen (exec i s.takeInput) fun t => .next (shiftSync t)

/-- The headline invariant: from every state that meets it, a step gives a state that meets it. Two parts of Inv are the model's
own: that img_req is 0 at the end of every clock is its choice (log entry 29; R50 gives only the level after reset), and `todo`,
`frameIdx` and `waiting` are its form of the sequencer position of R46 (log entry 7). -/
def Obligations.StepKeepsInvariant : Prop :=
  ∀ s t : State, Inv s → step s = .next t → Inv t

/-- The machine never stops where the spec has it go on: from every state that meets the invariant, the step answers a next
state, unless rst_n = 1 and the host makes an access that R72 leaves without meaning, which is refused. -/
def Obligations.InvariantStatesGoOn : Prop :=
  ∀ s : State, Inv s →
    (∃ t, step s = .next t)
      ∨ (step s = .refused .undefinedAccess ∧ s.nextInput.rstN = true
        ∧ ∃ a, s.nextInput.access = some a ∧ a.wf s.cfg = false)

/-- R5, R70, R71, R166: no step changes a parameter, a table byte or, but by the host's own writes, a byte of image memory. -/
def Obligations.OnlyHostWritesImageMemory : Prop :=
  ∀ s t : State, step s = .next t → t.cfg = s.cfg ∧ t.mem = s.mem.writes s.nextInput.hostMem

/-- R31, R44, R45: only a host write to an argument register, or to IRQ_EN, changes it: with rst_n = 1, a clock in which the
host does not write that register leaves it, whatever operation runs. -/
def Obligations.RegistersOnlyByHostWrite : Prop :=
  ∀ s t : State, s.nextInput.rstN = true → step s = .next t →
    let written (off : Nat) : Prop := ∃ a, s.nextInput.access = some a ∧ a.write = true ∧ a.offset s.cfg = off
    (¬ written 0x08 → t.winX = s.winX) ∧ (¬ written 0x0C → t.winY = s.winY) ∧ (¬ written 0x10 → t.cursor = s.cursor)
      ∧ (¬ written 0x14 → t.colour = s.colour) ∧ (¬ written 0x18 → t.lutSel = s.lutSel)
      ∧ (¬ written 0x1C → t.imgBase = s.imgBase) ∧ (¬ written 0x20 → t.imgLen = s.imgLen)
      ∧ (¬ written 0x24 → t.doneIe = s.doneIe)

/-- R45, R47, R83: while an operation runs, nothing the host does changes its latched arguments. -/
def Obligations.LatchedArgumentsFixedWhileActive : Prop :=
  ∀ s t : State, s.active = true → s.nextInput.rstN = true → step s = .next t → sameLatches s t

/-- R36, R39, R54, R200, R301: with no operation running, a clock sends nothing, reads no image byte and moves no line, whatever
the host does; DONE and DROPPED are sticky, cleared only by a host write of 1 to their bits of STATUS; and without a CMD write no
operation starts, STATE, LUT_MODE and RESULT stay, and DONE and DROPPED are not set. -/
def Obligations.IdleBlockSendsNothing : Prop :=
  ∀ s t : State, s.active = false → s.nextInput.rstN = true → step s = .next t →
    sameTrace s t
      ∧ (noStatusClear 12 s → s.done = true → t.done = true) ∧ (noStatusClear 13 s → t.dropped = s.dropped)
      ∧ (t.dropped = true → s.dropped = true)
      ∧ ((∀ a, s.nextInput.access = some a → a.write = false ∨ a.offset s.cfg ≠ 0) →
        t.active = false ∧ t.life = s.life ∧ t.lutMode = s.lutMode ∧ t.result = s.result
          ∧ (t.done = true → s.done = true) ∧ (noStatusClear 12 s → t.done = s.done))

/-- R80, R125: a clock adds at most one line event to the trace, and at most one image read. -/
def Obligations.OneEventAClock : Prop :=
  ∀ s t : State, s.nextInput.rstN = true → step s = .next t →
    (t.log = s.log ∨ ∃ e, t.log = e :: s.log) ∧ (t.imgReads = s.imgReads ∨ ∃ a, t.imgReads = a :: s.imgReads)

/-- R36, R39, R54, R202, R270, R271 (3): the clock in which an operation ends leaves DONE = 1, even when the host clears DONE in
it, and irq_o is then DONE_IE; ACTIVE falls in the same clock. In every other clock of a running operation RESULT stays, and DONE
too but for a host write of 1 to its bit; DROPPED is sticky, and set only by a CMD write. -/
def Obligations.EndOfOperationSetsDone : Prop :=
  ∀ s t : State, s.active = true → s.nextInput.rstN = true → step s = .next t →
    (t.active = false → t.done = true ∧ t.irqO = t.doneIe)
      ∧ (t.active = true → t.result = s.result ∧ (t.done = true → s.done = true) ∧ (noStatusClear 12 s → t.done = s.done))
      ∧ (noStatusClear 13 s → s.dropped = true → t.dropped = true)
      ∧ (t.dropped = true → s.dropped = true
        ∨ ∃ a, s.nextInput.access = some a ∧ a.write = true ∧ a.offset s.cfg = 0)

/-- R35, R271 (4): a CMD write while ACTIVE = 1 is dropped and flagged even in the clock where the operation ends: no new
operation runs after it. -/
def Obligations.CommandInLastClockDropped : Prop :=
  ∀ (s t : State) (a : Access), s.active = true → s.nextInput.rstN = true → s.nextInput.access = some a →
    a.wf s.cfg = true → a.write = true → a.offset s.cfg = 0 → step s = .next t →
    t.dropped = true ∧ (t.active = true → t.opCur = s.opCur) ∧ sameLatches s t

/-- R38, R163: when the last frame of set_lut(T), the data frame after 0x2C, has ended without a transport error, LUT_MODE is the
table named (0 FULL, 1 PARTIAL); and whatever else a clock does (but block reset) leaves it. -/
def Obligations.LutModeOnlyAfterLastLutFrame : Prop :=
  ∀ s t : State, Inv s → s.nextInput.rstN = true → step s = .next t →
    (∀ a r, s.active = true → s.todo = .cmd 0x2C#8 a :: r → s.frameIdx = 1 → s.nextInput.stall = false →
        s.nextInput.txErrI = false →
        t.lutMode = a.table ∧ ((statusWord t).getLsbD 2 = true ↔ a.table = .part)
          ∧ t.log = .frame .data [(lutTable s.cfg a.table)[158]] :: s.log)
      ∧ (t.lutMode ≠ s.lutMode →
        s.active = true ∧ s.frameIdx = 1 ∧ s.nextInput.stall = false ∧ s.nextInput.txErrI = false
          ∧ ∃ a r, s.todo = .cmd 0x2C#8 a :: r)

/-- R40, R268: STATE becomes FAULT only by an abort of a running operation, which ends it with TRANSPORT_ERROR or, where there is
a BUSY_TIMEOUT_POLLS, HARDWARE_TIMEOUT, and leaves LUT_MODE. -/
def Obligations.FaultOnlyByAbort : Prop :=
  ∀ s t : State, Inv s → step s = .next t → t.life = .fault → s.life ≠ .fault →
    s.active = true ∧ t.active = false ∧ t.done = true
      ∧ (t.result = .transportError ∨ t.result = .hardwareTimeout) ∧ t.lutMode = s.lutMode
      ∧ (t.result = .hardwareTimeout → s.cfg.busyTimeoutPolls ≠ none)

/-- R10, R102, R170: every event of the trace is one the block may produce: no CMD frame outside the command table, none of
more than one byte, no empty frame. -/
def Obligations.TraceStaysInAlphabet : Prop :=
  ∀ s t : State, Inv s → (∀ e ∈ s.log, eventAllowed s.cfg e = true) → step s = .next t →
    ∀ e ∈ t.log, eventAllowed t.cfg e = true

/-- R46: `step` stays below 3 × IMG_BYTES + 200. -/
def Obligations.StepNumberBounded : Prop :=
  ∀ s : State, Inv s → s.stepNo < 3 * (s.cfg.height * (s.cfg.width / 8)) + 200

/-! ### The image transform -/

/-- R242: idx is a bijection of the image indexes, and its own inverse. -/
def Obligations.ImageIndexBijection : Prop :=
  ∀ p : Params, p.valid = true →
    (∀ k, k < p.imgBytes → imageIndex p k < p.imgBytes ∧ imageIndex p (imageIndex p k) = k)
      ∧ ((List.range p.imgBytes).map (imageIndex p)).Perm (List.range p.imgBytes)

/-- R241: the k-th byte of an image RAM write is image index idx(k), where the indexes follow the loop: native byte-columns from
the last to the first, and in each the rows in order; with both closed forms, and the values of the default panel. -/
def Obligations.ImageIndexFollowsTheLoop : Prop :=
  (∀ p : Params, p.valid = true →
    (List.range p.imgBytes).map (imageIndex p)
        = ((List.range (p.width / 8)).reverse.flatMap fun j => (List.range p.height).map fun i => i + j * p.height)
      ∧ ∀ k, k < p.imgBytes →
        imageIndex p k = k % p.height + (p.width / 8 - 1 - k / p.height) * p.height
          ∧ (imageIndex p k : Int) = ((p.width / 8 : Nat) - 1) * p.height + k - 2 * p.height * (k / p.height : Nat))
    ∧ (∀ p : Params, p.width = 128 → p.height = 296 →
      [0, 295, 296, 4440, 4735].map (imageIndex p) = [4440, 4735, 4144, 0, 295])
    ∧ ∀ (s : State) (b : Byte) (a : Args) (r : List Item) (i : Instr) (k : Nat), s.todo = .cmd b a :: r → a.source = .image →
      (i = .writeRamBw ∨ i = .writeRamRed) → s.frameIdx = k + 1 → k < s.cfg.imgBytes →
      ∃ t, exec i s = .next t ∧ t.imgReads = imageAddr s.lImgBase (imageIndex s.cfg k) :: s.imgReads
        ∧ t.log = .frame .data [s.mem.read (imageAddr s.lImgBase (imageIndex s.cfg k)).toNat] :: s.log

/-! ### Whole operations -/

/-- R48, R79 (4), R202, R204: in a quiet environment, every operation that starts runs to its end, what it sent is exactly the
trace of its action list, in order, and what it read are exactly its image reads, in order: the machine of single actions
refines the pseudocode of R211-R220. -/
def Obligations.OperationSendsItsTrace : Prop :=
  ∀ (op : BitVec 4) (i : Instr) (s : State), Inv s → Quiet s → hostOpOf op = some i → CanStart i s →
    (takesImage i = true → s.imgLen ≠ 0#32) →
    ∃ (u : State) (n : Nat) (t : State), exec i s = .next u ∧ Host.Core.run Sys2Proof.core n u = .next t
      ∧ t.trace = s.trace ++ planTrace u (planOf op u)
      ∧ t.imgReads.reverse = s.imgReads.reverse ++ planReads u (planOf op u)
      ∧ t.active = false ∧ t.done = true ∧ t.result = .ok ∧ t.life = lifeAtEnd i s.life
      ∧ t.lutMode = lutModeAtEnd i s ∧ t.lines.rstO = rstAtEnd i s
      ∧ sameRegisters s t ∧ t.mem = s.mem ∧ t.cfg = s.cfg

/-- R146, R205, R206, R211, R212, W1: the traces of RESET and INIT. The first Rst(1) and the order of the y bytes are the spec's
general-knowledge choices (log entry 18). -/
def Obligations.ResetAndInitTraces : Prop :=
  ∀ s : State, s.cfg.valid = true →
    let p := s.cfg
    let pulse : List LineEvent :=
      [.rst true, .delay p.resetHi1Ms, .rst false, .delay p.resetLoMs, .rst true, .delay p.resetHi2Ms]
    let d (b : Byte) : LineEvent := .frame .data [b]
    let c (b : Byte) : LineEvent := .frame .cmd [b]
    planTrace s (planOf 0x1#4 s) = pulse ++ [c 0x12#8, .poll false]
      ∧ planTrace s (planOf 0x2#4 s) = pulse ++ [c 0x12#8, .poll false,
          c 0x01#8, d p.drvOutCtrlData[0], d p.drvOutCtrlData[1], d p.drvOutCtrlData[2],
          c 0x11#8, d p.dataEntryMode,
          c 0x44#8, d 0x00#8, d (BitVec.ofNat 8 ((p.width - 1) / 8)),
          c 0x45#8, d 0x00#8, d 0x00#8, d (BitVec.ofNat 8 (p.height - 1)), d (BitVec.ofNat 8 ((p.height - 1) / 256)),
          c 0x21#8, d p.dispUpdCtrl1Data[0], d p.dispUpdCtrl1Data[1],
          c 0x4E#8, d 0x00#8, c 0x4F#8, d 0x00#8, d 0x00#8, .poll false,
          c 0x32#8, .frame .data (p.lutFull.toList.take 153), .poll false,
          c 0x3F#8, d p.lutFull[153], c 0x03#8, d p.lutFull[154],
          c 0x04#8, d p.lutFull[155], d p.lutFull[156], d p.lutFull[157], c 0x2C#8, d p.lutFull[158]]

/-- R207, R208, R161, R213, R214, R215, R220: the traces of SET_WINDOW, SET_CURSOR, SET_LUT and SLEEP, from the latched
arguments. The order of the two y bytes is the spec's general-knowledge choice (log entry 18). -/
def Obligations.ArgumentOperationTraces : Prop :=
  ∀ s : State, s.cfg.valid = true →
    let d (b : Byte) : LineEvent := .frame .data [b]
    let c (b : Byte) : LineEvent := .frame .cmd [b]
    let x (v : Word) : LineEvent := d (BitVec.ofNat 8 (v.toNat % 65536 / 8))
    let xh (v : Word) : LineEvent := d (BitVec.ofNat 8 (v.toNat / 65536 / 8))
    let y (v : Word) : List LineEvent := [d (BitVec.ofNat 8 v.toNat), d (BitVec.ofNat 8 (v.toNat / 256))]
    let yh (v : Word) : List LineEvent :=
      [d (BitVec.ofNat 8 (v.toNat / 65536)), d (BitVec.ofNat 8 (v.toNat / 16777216))]
    let T := if s.lTable = .full then s.cfg.lutFull else s.cfg.lutPartial
    planTrace s (planOf 0x3#4 s) = [c 0x44#8, x s.lWinX, xh s.lWinX, c 0x45#8] ++ y s.lWinY ++ yh s.lWinY
      ∧ planTrace s (planOf 0x4#4 s) = [c 0x4E#8, x s.lCursor, c 0x4F#8] ++ yh s.lCursor ++ [.poll false]
      ∧ planTrace s (planOf 0x5#4 s) =
          [c 0x32#8, .frame .data (T.toList.take 153), .poll false, c 0x3F#8, d T[153], c 0x03#8, d T[154],
            c 0x04#8, d T[155], d T[156], d T[157], c 0x2C#8, d T[158]]
      ∧ planTrace s (planOf 0xA#4 s) =
          c 0x10#8 :: s.cfg.deepSleepData.toList.map d ++ [.delay s.cfg.sleepSettleMs, .rst false]

/-- R209, R216, R217, R219, R244, R245: the traces of DISPLAY, DISPLAY_BASE and CLEAR: no window and no cursor first, the whole
image in native order (CLEAR: IMG_BYTES copies of the colour), and the full activation 0xC7. -/
def Obligations.FullRedrawTraces : Prop :=
  ∀ s : State, s.cfg.valid = true →
    let d (b : Byte) : LineEvent := .frame .data [b]
    let c (b : Byte) : LineEvent := .frame .cmd [b]
    let image : List LineEvent := (List.range (s.cfg.height * (s.cfg.width / 8))).map fun k =>
      d (s.mem.read ((s.lImgBase.toNat
        + (k % s.cfg.height + (s.cfg.width / 8 - 1 - k / s.cfg.height) * s.cfg.height)) % 2 ^ 32))
    let fill : List LineEvent := List.replicate (s.cfg.height * (s.cfg.width / 8)) (d s.lColour)
    let activation : List LineEvent := [c 0x22#8, d 0xC7#8, c 0x20#8, .poll false]
    planTrace s (planOf 0x6#4 s) = c 0x24#8 :: image ++ activation
      ∧ planTrace s (planOf 0x7#4 s) = c 0x24#8 :: image ++ c 0x26#8 :: image ++ activation
      ∧ planTrace s (planOf 0x9#4 s) = c 0x24#8 :: fill ++ c 0x26#8 :: fill ++ activation

/-- R147, R210, R218: the trace of DISPLAY_PARTIAL in the four orders of its two parameters. The place of the 0xC0 group (D39) and
the order of the y bytes are the spec's general-knowledge choices (log entry 18). -/
def Obligations.DisplayPartialTrace : Prop :=
  ∀ s : State, s.cfg.valid = true →
    let p := s.cfg
    let d (b : Byte) : LineEvent := .frame .data [b]
    let c (b : Byte) : LineEvent := .frame .cmd [b]
    let T := p.lutPartial
    let lut : List LineEvent :=
      [c 0x32#8, .frame .data (T.toList.take 153), .poll false, c 0x3F#8, d T[153], c 0x03#8, d T[154],
        c 0x04#8, d T[155], d T[156], d T[157], c 0x2C#8, d T[158]]
    let pulse : List LineEvent := [.rst false, .delay p.shortLoMs, .rst true, .delay p.shortHiMs]
    let border : List LineEvent := [c 0x3C#8, d p.borderWaveformData]
    let opt : List LineEvent := c p.partialOptCmd :: p.partialOptData.toList.map d
    let image : List LineEvent := (List.range (p.height * (p.width / 8))).map fun k =>
      d (s.mem.read ((s.lImgBase.toNat + (k % p.height + (p.width / 8 - 1 - k / p.height) * p.height)) % 2 ^ 32))
    planTrace s (planOf 0x8#4 s) =
      (if p.partialPulseBeforeLut then pulse ++ lut else lut ++ pulse)
        ++ (if p.partialOptBeforeBorder then opt ++ border else border ++ opt)
        ++ [c 0x22#8, d 0xC0#8, c 0x20#8, .poll false,
          c 0x44#8, d 0x00#8, d (BitVec.ofNat 8 ((p.width - 1) / 8)),
          c 0x45#8, d 0x00#8, d 0x00#8, d (BitVec.ofNat 8 (p.height - 1)), d (BitVec.ofNat 8 ((p.height - 1) / 256)),
          c 0x4E#8, d 0x00#8, c 0x4F#8, d 0x00#8, d 0x00#8, .poll false, c 0x24#8]
        ++ image ++ [c 0x22#8, d 0x0F#8, c 0x20#8, .poll false]

/-- R221: how many actions each operation has: its frames, busy-waits, Rst events and fixed delays together; and how many image
reads. -/
def Obligations.OperationSizes : Prop :=
  ∀ s : State, s.cfg.valid = true →
    let n := s.cfg.height * (s.cfg.width / 8)
    actionCount s.cfg (planOf 0x1#4 s) = 1 + 1 + 3 + 3
      ∧ actionCount s.cfg (planOf 0x2#4 s) = 35 + 3 + 3 + 3
      ∧ actionCount s.cfg (planOf 0x3#4 s) = 8
      ∧ actionCount s.cfg (planOf 0x4#4 s) = 5 + 1
      ∧ actionCount s.cfg (planOf 0x5#4 s) = 12 + 1
      ∧ actionCount s.cfg (planOf 0x6#4 s) = (n + 4) + 1
      ∧ actionCount s.cfg (planOf 0x7#4 s) = (2 * n + 5) + 1
      ∧ actionCount s.cfg (planOf 0x8#4 s) = (n + 45) + 4 + 2 + 2
      ∧ actionCount s.cfg (planOf 0x9#4 s) = (2 * n + 5) + 1
      ∧ actionCount s.cfg (planOf 0xA#4 s) = (if s.cfg.deepSleepData = none then 1 else 2) + 1 + 1
      ∧ (planReads s (planOf 0x6#4 s)).length = n ∧ (planReads s (planOf 0x7#4 s)).length = 2 * n
      ∧ (planReads s (planOf 0x8#4 s)).length = n
      ∧ ∀ op ∈ [0x1#4, 0x2#4, 0x3#4, 0x4#4, 0x5#4, 0x9#4, 0xA#4], planReads s (planOf op s) = []

/-! ### Busy-waits and STATE through a whole operation -/

/-- R141, R142, R148: a busy-wait goes on sampling. A poll delay that runs ends, at the same action and with the one event
Delay(BUSY_POLL_MS), and the next clock samples again; and a sample that reads 1, short of a timeout, gives Poll(1), then
Delay(BUSY_POLL_MS), then a new sample, whatever the panel answers then: answers 1, 1, 0 give POLL 1, DELAY, POLL 1, DELAY,
POLL 0. The number of clocks is the model's (log entry 11). -/
def Obligations.BusyWaitSamplesAgain : Prop :=
  ∀ (s : State) (r : List Item), s.cfg.valid = true → s.active = true → Undisturbed s → s.todo = .busyWait :: r →
    let ms := s.cfg.busyPollMs
    let before := if s.waiting then s.polls else 0
    (s.delayOn = true →
      ∃ t u, Host.Core.run Sys2Proof.core (s.delayCnt + 1) s = .next t ∧ samePlace s t ∧ t.delayOn = false
        ∧ t.waiting = s.waiting ∧ t.polls = s.polls ∧ t.log = .delay ms :: s.log
        ∧ step t = .next u ∧ u.log = .poll t.takeInput.busySync :: t.log)
      ∧ (s.delayOn = false → s.takeInput.busySync = true →
        (∀ n, s.cfg.busyTimeoutPolls = some n → before + 1 < n) →
        ∃ t u, Host.Core.run Sys2Proof.core ((ms * s.cfg.clkHz + 999) / 1000 + 2) s = .next t ∧ samePlace s t
          ∧ t.delayOn = false ∧ t.waiting = true ∧ t.polls = before + 1 ∧ t.log = .delay ms :: .poll true :: s.log
          ∧ step t = .next u ∧ u.log = .poll t.takeInput.busySync :: t.log)

/-- R201, R202, R268: STATE through an operation. In every clock after which the operation still runs STATE is what it was, but
for INIT, which shows HARDWARE_RESET through the 8 actions of its reset_seq (three Rst events, three delays, the frame 0x12 and a
busy-wait, R205) and CONFIGURING from then on; the clock of a normal end leaves the STATE of R201's last column, and an
abort's FAULT. -/
def Obligations.StateWhileRunning : Prop :=
  ∀ (i : Instr) (s t : State), Inv s → s.active = true → s.nextInput.rstN = true → hostOpOf s.lOp = some i →
    step s = .next t →
    (i ≠ .init → t.active = true → t.life = s.life)
      ∧ (i = .init → t.active = true → t.life = if t.stepNo < 8 then .hardwareReset else .configuring)
      ∧ (t.active = false → t.result = .ok → t.life = lifeAtEnd i s.life)
      ∧ (t.active = false → t.result ≠ .ok → t.life = .fault)
end

