-- ==== Sys2Proof/Laws/Memory.lean ====
section
/-! SUPPORT. The image memory: a read after a write, and the canonical form, which every memory operation keeps. -/

namespace Sys2Proof.Machine

theorem Memory.read_write_same (m : Memory) (a : Nat) (b : Byte) (lo : Nat) (h : m.wfFrom lo = true) :
    (m.write a b).read a = b := by
  induction m generalizing lo with
  | nil => by_cases hb : b = unlistedByte <;> simp [Memory.write, Memory.read, hb]
  | cons c r ih =>
    obtain ⟨k, v⟩ := c
    simp only [Memory.wfFrom, Bool.and_eq_true, decide_eq_true_eq] at h
    have below (lo' : Nat) (r' : Memory) (hr : r'.wfFrom lo' = true) (hlt : a < lo') : r'.read a = unlistedByte := by
      induction r' generalizing lo' with
      | nil => rfl
      | cons c' t ih' =>
        obtain ⟨k', v'⟩ := c'
        simp only [Memory.wfFrom, Bool.and_eq_true, decide_eq_true_eq] at hr
        have hne : k' ≠ a := by omega
        simp only [Memory.read, hne, if_false]
        exact ih' (k' + 1) hr.2 (by omega)
    unfold Memory.write
    split
    · have hne : k ≠ a := by omega
      split
      · rename_i hb
        simp only [Memory.read, hne, if_false, hb]
        exact below (k + 1) r h.2 (by omega)
      · simp [Memory.read]
    · split
      · rename_i hk
        split
        · rename_i hb
          rw [hb]
          exact below (k + 1) r h.2 (by omega)
        · simp [Memory.read]
      · rename_i hk
        have hne : k ≠ a := fun e => hk e.symm
        simp only [Memory.read, hne, if_false]
        exact ih (k + 1) h.2

theorem Memory.read_write_other (m : Memory) (a a' : Nat) (b : Byte) (h : a' ≠ a) :
    (m.write a b).read a' = m.read a' := by
  induction m with
  | nil => by_cases hb : b = unlistedByte <;> simp [Memory.write, Memory.read, hb, h.symm]
  | cons c r ih =>
    obtain ⟨k, v⟩ := c
    unfold Memory.write
    split
    · split <;> simp [Memory.read, h.symm]
    · split
      · rename_i hk
        subst hk
        split <;> simp [Memory.read, h.symm]
      · simp only [Memory.read]
        split <;> simp [ih]

theorem Memory.wfFrom_mono (m : Memory) (lo lo' : Nat) (hle : lo' ≤ lo) (h : m.wfFrom lo = true) :
    m.wfFrom lo' = true := by
  cases m with
  | nil => rfl
  | cons c r =>
    simp only [Memory.wfFrom, Bool.and_eq_true, decide_eq_true_eq] at h ⊢
    exact ⟨⟨⟨by omega, h.1.1.2⟩, h.1.2⟩, h.2⟩

theorem Memory.write_wfFrom (m : Memory) (a : Nat) (b : Byte) (lo : Nat) (hlo : lo ≤ a) (ha : a < 2 ^ 32)
    (h : m.wfFrom lo = true) : (m.write a b).wfFrom lo = true := by
  induction m generalizing lo with
  | nil =>
    by_cases hb : b = unlistedByte
    · simp [Memory.write, Memory.wfFrom, hb]
    · simpa [Memory.write, Memory.wfFrom, hb] using ⟨hlo, ha⟩
  | cons c r ih =>
    obtain ⟨k, v⟩ := c
    have h' := h
    simp only [Memory.wfFrom, Bool.and_eq_true, decide_eq_true_eq] at h'
    obtain ⟨⟨⟨hk, hk32⟩, hv⟩, hr⟩ := h'
    unfold Memory.write
    split
    · split
      · exact h
      · rename_i hlt hb
        simp only [Memory.wfFrom, Bool.and_eq_true, decide_eq_true_eq]
        refine ⟨⟨⟨hlo, ha⟩, by simpa using hb⟩, ⟨⟨by omega, hk32⟩, hv⟩, hr⟩
    · split
      · rename_i hka
        subst hka
        split
        · exact Memory.wfFrom_mono r _ _ (by omega) hr
        · rename_i hb
          simp only [Memory.wfFrom, Bool.and_eq_true, decide_eq_true_eq]
          exact ⟨⟨⟨hlo, ha⟩, by simpa using hb⟩, hr⟩
      · rename_i hlt hne
        simp only [Memory.wfFrom, Bool.and_eq_true, decide_eq_true_eq]
        exact ⟨⟨⟨hk, hk32⟩, hv⟩, ih (k + 1) (by omega) hr⟩

theorem Memory.write_wf (m : Memory) (a : Word) (b : Byte) (h : m.wf = true) : (m.write a.toNat b).wf = true :=
  Memory.write_wfFrom m a.toNat b 0 (Nat.zero_le _) a.isLt h

theorem Memory.writes_wf (m : Memory) (l : List (Word × Byte)) (h : m.wf = true) : (m.writes l).wf = true := by
  induction l generalizing m with
  | nil => exact h
  | cons c r ih => exact ih _ (Memory.write_wf m c.1 c.2 h)

theorem reset_mem_wf (p : Params) : (State.resetOf p).mem.wf = true := rfl

end Sys2Proof.Machine
end

