-- ==== Sys2Proof/Laws/State.lean ====
section
/-! SUPPORT. One lemma for each field after each named update of the state, true by rfl, so that no proof unfolds a record
update. -/

namespace Sys2Proof.Machine

/-! ### emit -/

@[simp] theorem emit_cfg (e : LineEvent) (s : State) : (emit e s).cfg = s.cfg := rfl
@[simp] theorem emit_winX (e : LineEvent) (s : State) : (emit e s).winX = s.winX := rfl
@[simp] theorem emit_winY (e : LineEvent) (s : State) : (emit e s).winY = s.winY := rfl
@[simp] theorem emit_cursor (e : LineEvent) (s : State) : (emit e s).cursor = s.cursor := rfl
@[simp] theorem emit_colour (e : LineEvent) (s : State) : (emit e s).colour = s.colour := rfl
@[simp] theorem emit_lutSel (e : LineEvent) (s : State) : (emit e s).lutSel = s.lutSel := rfl
@[simp] theorem emit_imgBase (e : LineEvent) (s : State) : (emit e s).imgBase = s.imgBase := rfl
@[simp] theorem emit_imgLen (e : LineEvent) (s : State) : (emit e s).imgLen = s.imgLen := rfl
@[simp] theorem emit_doneIe (e : LineEvent) (s : State) : (emit e s).doneIe = s.doneIe := rfl
@[simp] theorem emit_active (e : LineEvent) (s : State) : (emit e s).active = s.active := rfl
@[simp] theorem emit_lutMode (e : LineEvent) (s : State) : (emit e s).lutMode = s.lutMode := rfl
@[simp] theorem emit_life (e : LineEvent) (s : State) : (emit e s).life = s.life := rfl
@[simp] theorem emit_result (e : LineEvent) (s : State) : (emit e s).result = s.result := rfl
@[simp] theorem emit_done (e : LineEvent) (s : State) : (emit e s).done = s.done := rfl
@[simp] theorem emit_dropped (e : LineEvent) (s : State) : (emit e s).dropped = s.dropped := rfl
@[simp] theorem emit_opCur (e : LineEvent) (s : State) : (emit e s).opCur = s.opCur := rfl
@[simp] theorem emit_stepNo (e : LineEvent) (s : State) : (emit e s).stepNo = s.stepNo := rfl
@[simp] theorem emit_todo (e : LineEvent) (s : State) : (emit e s).todo = s.todo := rfl
@[simp] theorem emit_frameIdx (e : LineEvent) (s : State) : (emit e s).frameIdx = s.frameIdx := rfl
@[simp] theorem emit_lOp (e : LineEvent) (s : State) : (emit e s).lOp = s.lOp := rfl
@[simp] theorem emit_lWinX (e : LineEvent) (s : State) : (emit e s).lWinX = s.lWinX := rfl
@[simp] theorem emit_lWinY (e : LineEvent) (s : State) : (emit e s).lWinY = s.lWinY := rfl
@[simp] theorem emit_lCursor (e : LineEvent) (s : State) : (emit e s).lCursor = s.lCursor := rfl
@[simp] theorem emit_lColour (e : LineEvent) (s : State) : (emit e s).lColour = s.lColour := rfl
@[simp] theorem emit_lTable (e : LineEvent) (s : State) : (emit e s).lTable = s.lTable := rfl
@[simp] theorem emit_lImgBase (e : LineEvent) (s : State) : (emit e s).lImgBase = s.lImgBase := rfl
@[simp] theorem emit_lImgLen (e : LineEvent) (s : State) : (emit e s).lImgLen = s.lImgLen := rfl
@[simp] theorem emit_polls (e : LineEvent) (s : State) : (emit e s).polls = s.polls := rfl
@[simp] theorem emit_waiting (e : LineEvent) (s : State) : (emit e s).waiting = s.waiting := rfl
@[simp] theorem emit_delayOn (e : LineEvent) (s : State) : (emit e s).delayOn = s.delayOn := rfl
@[simp] theorem emit_delayCnt (e : LineEvent) (s : State) : (emit e s).delayCnt = s.delayCnt := rfl
@[simp] theorem emit_sync (e : LineEvent) (s : State) : (emit e s).sync = s.sync := rfl
@[simp] theorem emit_lines (e : LineEvent) (s : State) : (emit e s).lines = s.lines := rfl
@[simp] theorem emit_rstN (e : LineEvent) (s : State) : (emit e s).rstN = s.rstN := rfl
@[simp] theorem emit_busyI (e : LineEvent) (s : State) : (emit e s).busyI = s.busyI := rfl
@[simp] theorem emit_txErrI (e : LineEvent) (s : State) : (emit e s).txErrI = s.txErrI := rfl
@[simp] theorem emit_rdata (e : LineEvent) (s : State) : (emit e s).rdata = s.rdata := rfl
@[simp] theorem emit_mem (e : LineEvent) (s : State) : (emit e s).mem = s.mem := rfl
@[simp] theorem emit_inputs (e : LineEvent) (s : State) : (emit e s).inputs = s.inputs := rfl
@[simp] theorem emit_log (e : LineEvent) (s : State) : (emit e s).log = e :: s.log := rfl
@[simp] theorem emit_imgReads (e : LineEvent) (s : State) : (emit e s).imgReads = s.imgReads := rfl

/-! ### emitFrame -/

@[simp] theorem emitFrame_cfg (k : FrameKind) (bs : List Byte) (s : State) : (emitFrame k bs s).cfg = s.cfg := rfl
@[simp] theorem emitFrame_winX (k : FrameKind) (bs : List Byte) (s : State) : (emitFrame k bs s).winX = s.winX := rfl
@[simp] theorem emitFrame_winY (k : FrameKind) (bs : List Byte) (s : State) : (emitFrame k bs s).winY = s.winY := rfl
@[simp] theorem emitFrame_cursor (k : FrameKind) (bs : List Byte) (s : State) : (emitFrame k bs s).cursor = s.cursor := rfl
@[simp] theorem emitFrame_colour (k : FrameKind) (bs : List Byte) (s : State) : (emitFrame k bs s).colour = s.colour := rfl
@[simp] theorem emitFrame_lutSel (k : FrameKind) (bs : List Byte) (s : State) : (emitFrame k bs s).lutSel = s.lutSel := rfl
@[simp] theorem emitFrame_imgBase (k : FrameKind) (bs : List Byte) (s : State) : (emitFrame k bs s).imgBase = s.imgBase := rfl
@[simp] theorem emitFrame_imgLen (k : FrameKind) (bs : List Byte) (s : State) : (emitFrame k bs s).imgLen = s.imgLen := rfl
@[simp] theorem emitFrame_doneIe (k : FrameKind) (bs : List Byte) (s : State) : (emitFrame k bs s).doneIe = s.doneIe := rfl
@[simp] theorem emitFrame_active (k : FrameKind) (bs : List Byte) (s : State) : (emitFrame k bs s).active = s.active := rfl
@[simp] theorem emitFrame_lutMode (k : FrameKind) (bs : List Byte) (s : State) : (emitFrame k bs s).lutMode = s.lutMode := rfl
@[simp] theorem emitFrame_life (k : FrameKind) (bs : List Byte) (s : State) : (emitFrame k bs s).life = s.life := rfl
@[simp] theorem emitFrame_result (k : FrameKind) (bs : List Byte) (s : State) : (emitFrame k bs s).result = s.result := rfl
@[simp] theorem emitFrame_done (k : FrameKind) (bs : List Byte) (s : State) : (emitFrame k bs s).done = s.done := rfl
@[simp] theorem emitFrame_dropped (k : FrameKind) (bs : List Byte) (s : State) : (emitFrame k bs s).dropped = s.dropped := rfl
@[simp] theorem emitFrame_opCur (k : FrameKind) (bs : List Byte) (s : State) : (emitFrame k bs s).opCur = s.opCur := rfl
@[simp] theorem emitFrame_stepNo (k : FrameKind) (bs : List Byte) (s : State) : (emitFrame k bs s).stepNo = s.stepNo := rfl
@[simp] theorem emitFrame_todo (k : FrameKind) (bs : List Byte) (s : State) : (emitFrame k bs s).todo = s.todo := rfl
@[simp] theorem emitFrame_frameIdx (k : FrameKind) (bs : List Byte) (s : State) : (emitFrame k bs s).frameIdx = s.frameIdx := rfl
@[simp] theorem emitFrame_lOp (k : FrameKind) (bs : List Byte) (s : State) : (emitFrame k bs s).lOp = s.lOp := rfl
@[simp] theorem emitFrame_lWinX (k : FrameKind) (bs : List Byte) (s : State) : (emitFrame k bs s).lWinX = s.lWinX := rfl
@[simp] theorem emitFrame_lWinY (k : FrameKind) (bs : List Byte) (s : State) : (emitFrame k bs s).lWinY = s.lWinY := rfl
@[simp] theorem emitFrame_lCursor (k : FrameKind) (bs : List Byte) (s : State) : (emitFrame k bs s).lCursor = s.lCursor := rfl
@[simp] theorem emitFrame_lColour (k : FrameKind) (bs : List Byte) (s : State) : (emitFrame k bs s).lColour = s.lColour := rfl
@[simp] theorem emitFrame_lTable (k : FrameKind) (bs : List Byte) (s : State) : (emitFrame k bs s).lTable = s.lTable := rfl
@[simp] theorem emitFrame_lImgBase (k : FrameKind) (bs : List Byte) (s : State) : (emitFrame k bs s).lImgBase = s.lImgBase := rfl
@[simp] theorem emitFrame_lImgLen (k : FrameKind) (bs : List Byte) (s : State) : (emitFrame k bs s).lImgLen = s.lImgLen := rfl
@[simp] theorem emitFrame_polls (k : FrameKind) (bs : List Byte) (s : State) : (emitFrame k bs s).polls = s.polls := rfl
@[simp] theorem emitFrame_waiting (k : FrameKind) (bs : List Byte) (s : State) : (emitFrame k bs s).waiting = s.waiting := rfl
@[simp] theorem emitFrame_delayOn (k : FrameKind) (bs : List Byte) (s : State) : (emitFrame k bs s).delayOn = s.delayOn := rfl
@[simp] theorem emitFrame_delayCnt (k : FrameKind) (bs : List Byte) (s : State) : (emitFrame k bs s).delayCnt = s.delayCnt := rfl
@[simp] theorem emitFrame_sync (k : FrameKind) (bs : List Byte) (s : State) : (emitFrame k bs s).sync = s.sync := rfl
@[simp] theorem emitFrame_lines (k : FrameKind) (bs : List Byte) (s : State) : (emitFrame k bs s).lines = afterFrameLines k s.lines := rfl
@[simp] theorem emitFrame_rstN (k : FrameKind) (bs : List Byte) (s : State) : (emitFrame k bs s).rstN = s.rstN := rfl
@[simp] theorem emitFrame_busyI (k : FrameKind) (bs : List Byte) (s : State) : (emitFrame k bs s).busyI = s.busyI := rfl
@[simp] theorem emitFrame_txErrI (k : FrameKind) (bs : List Byte) (s : State) : (emitFrame k bs s).txErrI = s.txErrI := rfl
@[simp] theorem emitFrame_rdata (k : FrameKind) (bs : List Byte) (s : State) : (emitFrame k bs s).rdata = s.rdata := rfl
@[simp] theorem emitFrame_mem (k : FrameKind) (bs : List Byte) (s : State) : (emitFrame k bs s).mem = s.mem := rfl
@[simp] theorem emitFrame_inputs (k : FrameKind) (bs : List Byte) (s : State) : (emitFrame k bs s).inputs = s.inputs := rfl
@[simp] theorem emitFrame_log (k : FrameKind) (bs : List Byte) (s : State) : (emitFrame k bs s).log = .frame k bs :: s.log := rfl
@[simp] theorem emitFrame_imgReads (k : FrameKind) (bs : List Byte) (s : State) : (emitFrame k bs s).imgReads = s.imgReads := rfl

/-! ### complete -/

@[simp] theorem complete_cfg (r : ResultCode) (s : State) : (complete r s).cfg = s.cfg := rfl
@[simp] theorem complete_winX (r : ResultCode) (s : State) : (complete r s).winX = s.winX := rfl
@[simp] theorem complete_winY (r : ResultCode) (s : State) : (complete r s).winY = s.winY := rfl
@[simp] theorem complete_cursor (r : ResultCode) (s : State) : (complete r s).cursor = s.cursor := rfl
@[simp] theorem complete_colour (r : ResultCode) (s : State) : (complete r s).colour = s.colour := rfl
@[simp] theorem complete_lutSel (r : ResultCode) (s : State) : (complete r s).lutSel = s.lutSel := rfl
@[simp] theorem complete_imgBase (r : ResultCode) (s : State) : (complete r s).imgBase = s.imgBase := rfl
@[simp] theorem complete_imgLen (r : ResultCode) (s : State) : (complete r s).imgLen = s.imgLen := rfl
@[simp] theorem complete_doneIe (r : ResultCode) (s : State) : (complete r s).doneIe = s.doneIe := rfl
@[simp] theorem complete_active (r : ResultCode) (s : State) : (complete r s).active = false := rfl
@[simp] theorem complete_lutMode (r : ResultCode) (s : State) : (complete r s).lutMode = s.lutMode := rfl
@[simp] theorem complete_life (r : ResultCode) (s : State) : (complete r s).life = s.life := rfl
@[simp] theorem complete_result (r : ResultCode) (s : State) : (complete r s).result = r := rfl
@[simp] theorem complete_done (r : ResultCode) (s : State) : (complete r s).done = true := rfl
@[simp] theorem complete_dropped (r : ResultCode) (s : State) : (complete r s).dropped = s.dropped := rfl
@[simp] theorem complete_opCur (r : ResultCode) (s : State) : (complete r s).opCur = none := rfl
@[simp] theorem complete_stepNo (r : ResultCode) (s : State) : (complete r s).stepNo = 0 := rfl
@[simp] theorem complete_todo (r : ResultCode) (s : State) : (complete r s).todo = [] := rfl
@[simp] theorem complete_frameIdx (r : ResultCode) (s : State) : (complete r s).frameIdx = 0 := rfl
@[simp] theorem complete_lOp (r : ResultCode) (s : State) : (complete r s).lOp = s.lOp := rfl
@[simp] theorem complete_lWinX (r : ResultCode) (s : State) : (complete r s).lWinX = s.lWinX := rfl
@[simp] theorem complete_lWinY (r : ResultCode) (s : State) : (complete r s).lWinY = s.lWinY := rfl
@[simp] theorem complete_lCursor (r : ResultCode) (s : State) : (complete r s).lCursor = s.lCursor := rfl
@[simp] theorem complete_lColour (r : ResultCode) (s : State) : (complete r s).lColour = s.lColour := rfl
@[simp] theorem complete_lTable (r : ResultCode) (s : State) : (complete r s).lTable = s.lTable := rfl
@[simp] theorem complete_lImgBase (r : ResultCode) (s : State) : (complete r s).lImgBase = s.lImgBase := rfl
@[simp] theorem complete_lImgLen (r : ResultCode) (s : State) : (complete r s).lImgLen = s.lImgLen := rfl
@[simp] theorem complete_polls (r : ResultCode) (s : State) : (complete r s).polls = s.polls := rfl
@[simp] theorem complete_waiting (r : ResultCode) (s : State) : (complete r s).waiting = false := rfl
@[simp] theorem complete_delayOn (r : ResultCode) (s : State) : (complete r s).delayOn = false := rfl
@[simp] theorem complete_delayCnt (r : ResultCode) (s : State) : (complete r s).delayCnt = s.delayCnt := rfl
@[simp] theorem complete_sync (r : ResultCode) (s : State) : (complete r s).sync = s.sync := rfl
@[simp] theorem complete_lines (r : ResultCode) (s : State) : (complete r s).lines = s.lines := rfl
@[simp] theorem complete_rstN (r : ResultCode) (s : State) : (complete r s).rstN = s.rstN := rfl
@[simp] theorem complete_busyI (r : ResultCode) (s : State) : (complete r s).busyI = s.busyI := rfl
@[simp] theorem complete_txErrI (r : ResultCode) (s : State) : (complete r s).txErrI = s.txErrI := rfl
@[simp] theorem complete_rdata (r : ResultCode) (s : State) : (complete r s).rdata = s.rdata := rfl
@[simp] theorem complete_mem (r : ResultCode) (s : State) : (complete r s).mem = s.mem := rfl
@[simp] theorem complete_inputs (r : ResultCode) (s : State) : (complete r s).inputs = s.inputs := rfl
@[simp] theorem complete_log (r : ResultCode) (s : State) : (complete r s).log = s.log := rfl
@[simp] theorem complete_imgReads (r : ResultCode) (s : State) : (complete r s).imgReads = s.imgReads := rfl

/-! ### abort -/

@[simp] theorem abort_cfg (r : ResultCode) (s : State) : (abort r s).cfg = s.cfg := rfl
@[simp] theorem abort_winX (r : ResultCode) (s : State) : (abort r s).winX = s.winX := rfl
@[simp] theorem abort_winY (r : ResultCode) (s : State) : (abort r s).winY = s.winY := rfl
@[simp] theorem abort_cursor (r : ResultCode) (s : State) : (abort r s).cursor = s.cursor := rfl
@[simp] theorem abort_colour (r : ResultCode) (s : State) : (abort r s).colour = s.colour := rfl
@[simp] theorem abort_lutSel (r : ResultCode) (s : State) : (abort r s).lutSel = s.lutSel := rfl
@[simp] theorem abort_imgBase (r : ResultCode) (s : State) : (abort r s).imgBase = s.imgBase := rfl
@[simp] theorem abort_imgLen (r : ResultCode) (s : State) : (abort r s).imgLen = s.imgLen := rfl
@[simp] theorem abort_doneIe (r : ResultCode) (s : State) : (abort r s).doneIe = s.doneIe := rfl
@[simp] theorem abort_active (r : ResultCode) (s : State) : (abort r s).active = false := rfl
@[simp] theorem abort_lutMode (r : ResultCode) (s : State) : (abort r s).lutMode = s.lutMode := rfl
@[simp] theorem abort_life (r : ResultCode) (s : State) : (abort r s).life = .fault := rfl
@[simp] theorem abort_result (r : ResultCode) (s : State) : (abort r s).result = r := rfl
@[simp] theorem abort_done (r : ResultCode) (s : State) : (abort r s).done = true := rfl
@[simp] theorem abort_dropped (r : ResultCode) (s : State) : (abort r s).dropped = s.dropped := rfl
@[simp] theorem abort_opCur (r : ResultCode) (s : State) : (abort r s).opCur = none := rfl
@[simp] theorem abort_stepNo (r : ResultCode) (s : State) : (abort r s).stepNo = 0 := rfl
@[simp] theorem abort_todo (r : ResultCode) (s : State) : (abort r s).todo = [] := rfl
@[simp] theorem abort_frameIdx (r : ResultCode) (s : State) : (abort r s).frameIdx = 0 := rfl
@[simp] theorem abort_lOp (r : ResultCode) (s : State) : (abort r s).lOp = s.lOp := rfl
@[simp] theorem abort_lWinX (r : ResultCode) (s : State) : (abort r s).lWinX = s.lWinX := rfl
@[simp] theorem abort_lWinY (r : ResultCode) (s : State) : (abort r s).lWinY = s.lWinY := rfl
@[simp] theorem abort_lCursor (r : ResultCode) (s : State) : (abort r s).lCursor = s.lCursor := rfl
@[simp] theorem abort_lColour (r : ResultCode) (s : State) : (abort r s).lColour = s.lColour := rfl
@[simp] theorem abort_lTable (r : ResultCode) (s : State) : (abort r s).lTable = s.lTable := rfl
@[simp] theorem abort_lImgBase (r : ResultCode) (s : State) : (abort r s).lImgBase = s.lImgBase := rfl
@[simp] theorem abort_lImgLen (r : ResultCode) (s : State) : (abort r s).lImgLen = s.lImgLen := rfl
@[simp] theorem abort_polls (r : ResultCode) (s : State) : (abort r s).polls = s.polls := rfl
@[simp] theorem abort_waiting (r : ResultCode) (s : State) : (abort r s).waiting = false := rfl
@[simp] theorem abort_delayOn (r : ResultCode) (s : State) : (abort r s).delayOn = false := rfl
@[simp] theorem abort_delayCnt (r : ResultCode) (s : State) : (abort r s).delayCnt = s.delayCnt := rfl
@[simp] theorem abort_sync (r : ResultCode) (s : State) : (abort r s).sync = s.sync := rfl
@[simp] theorem abort_lines (r : ResultCode) (s : State) : (abort r s).lines = { s.lines with csO := true, sclkO := false, mosiO := false } := rfl
@[simp] theorem abort_rstN (r : ResultCode) (s : State) : (abort r s).rstN = s.rstN := rfl
@[simp] theorem abort_busyI (r : ResultCode) (s : State) : (abort r s).busyI = s.busyI := rfl
@[simp] theorem abort_txErrI (r : ResultCode) (s : State) : (abort r s).txErrI = s.txErrI := rfl
@[simp] theorem abort_rdata (r : ResultCode) (s : State) : (abort r s).rdata = s.rdata := rfl
@[simp] theorem abort_mem (r : ResultCode) (s : State) : (abort r s).mem = s.mem := rfl
@[simp] theorem abort_inputs (r : ResultCode) (s : State) : (abort r s).inputs = s.inputs := rfl
@[simp] theorem abort_log (r : ResultCode) (s : State) : (abort r s).log = s.log := rfl
@[simp] theorem abort_imgReads (r : ResultCode) (s : State) : (abort r s).imgReads = s.imgReads := rfl

/-! ### latch -/

@[simp] theorem latch_cfg (op : BitVec 4) (s : State) : (latch op s).cfg = s.cfg := rfl
@[simp] theorem latch_winX (op : BitVec 4) (s : State) : (latch op s).winX = s.winX := rfl
@[simp] theorem latch_winY (op : BitVec 4) (s : State) : (latch op s).winY = s.winY := rfl
@[simp] theorem latch_cursor (op : BitVec 4) (s : State) : (latch op s).cursor = s.cursor := rfl
@[simp] theorem latch_colour (op : BitVec 4) (s : State) : (latch op s).colour = s.colour := rfl
@[simp] theorem latch_lutSel (op : BitVec 4) (s : State) : (latch op s).lutSel = s.lutSel := rfl
@[simp] theorem latch_imgBase (op : BitVec 4) (s : State) : (latch op s).imgBase = s.imgBase := rfl
@[simp] theorem latch_imgLen (op : BitVec 4) (s : State) : (latch op s).imgLen = s.imgLen := rfl
@[simp] theorem latch_doneIe (op : BitVec 4) (s : State) : (latch op s).doneIe = s.doneIe := rfl
@[simp] theorem latch_active (op : BitVec 4) (s : State) : (latch op s).active = true := rfl
@[simp] theorem latch_lutMode (op : BitVec 4) (s : State) : (latch op s).lutMode = s.lutMode := rfl
@[simp] theorem latch_life (op : BitVec 4) (s : State) : (latch op s).life = s.life := rfl
@[simp] theorem latch_result (op : BitVec 4) (s : State) : (latch op s).result = s.result := rfl
@[simp] theorem latch_done (op : BitVec 4) (s : State) : (latch op s).done = s.done := rfl
@[simp] theorem latch_dropped (op : BitVec 4) (s : State) : (latch op s).dropped = s.dropped := rfl
@[simp] theorem latch_opCur (op : BitVec 4) (s : State) : (latch op s).opCur = some op := rfl
@[simp] theorem latch_stepNo (op : BitVec 4) (s : State) : (latch op s).stepNo = 0 := rfl
@[simp] theorem latch_todo (op : BitVec 4) (s : State) : (latch op s).todo = s.todo := rfl
@[simp] theorem latch_frameIdx (op : BitVec 4) (s : State) : (latch op s).frameIdx = 0 := rfl
@[simp] theorem latch_lOp (op : BitVec 4) (s : State) : (latch op s).lOp = op := rfl
@[simp] theorem latch_lWinX (op : BitVec 4) (s : State) : (latch op s).lWinX = s.winX := rfl
@[simp] theorem latch_lWinY (op : BitVec 4) (s : State) : (latch op s).lWinY = s.winY := rfl
@[simp] theorem latch_lCursor (op : BitVec 4) (s : State) : (latch op s).lCursor = s.cursor := rfl
@[simp] theorem latch_lColour (op : BitVec 4) (s : State) : (latch op s).lColour = s.colour := rfl
@[simp] theorem latch_lTable (op : BitVec 4) (s : State) : (latch op s).lTable = s.lutSel := rfl
@[simp] theorem latch_lImgBase (op : BitVec 4) (s : State) : (latch op s).lImgBase = s.imgBase := rfl
@[simp] theorem latch_lImgLen (op : BitVec 4) (s : State) : (latch op s).lImgLen = s.imgLen := rfl
@[simp] theorem latch_polls (op : BitVec 4) (s : State) : (latch op s).polls = s.polls := rfl
@[simp] theorem latch_waiting (op : BitVec 4) (s : State) : (latch op s).waiting = false := rfl
@[simp] theorem latch_delayOn (op : BitVec 4) (s : State) : (latch op s).delayOn = false := rfl
@[simp] theorem latch_delayCnt (op : BitVec 4) (s : State) : (latch op s).delayCnt = s.delayCnt := rfl
@[simp] theorem latch_sync (op : BitVec 4) (s : State) : (latch op s).sync = s.sync := rfl
@[simp] theorem latch_lines (op : BitVec 4) (s : State) : (latch op s).lines = s.lines := rfl
@[simp] theorem latch_rstN (op : BitVec 4) (s : State) : (latch op s).rstN = s.rstN := rfl
@[simp] theorem latch_busyI (op : BitVec 4) (s : State) : (latch op s).busyI = s.busyI := rfl
@[simp] theorem latch_txErrI (op : BitVec 4) (s : State) : (latch op s).txErrI = s.txErrI := rfl
@[simp] theorem latch_rdata (op : BitVec 4) (s : State) : (latch op s).rdata = s.rdata := rfl
@[simp] theorem latch_mem (op : BitVec 4) (s : State) : (latch op s).mem = s.mem := rfl
@[simp] theorem latch_inputs (op : BitVec 4) (s : State) : (latch op s).inputs = s.inputs := rfl
@[simp] theorem latch_log (op : BitVec 4) (s : State) : (latch op s).log = s.log := rfl
@[simp] theorem latch_imgReads (op : BitVec 4) (s : State) : (latch op s).imgReads = s.imgReads := rfl

/-! ### shiftSync -/

@[simp] theorem shiftSync_cfg (s : State) : (shiftSync s).cfg = s.cfg := rfl
@[simp] theorem shiftSync_winX (s : State) : (shiftSync s).winX = s.winX := rfl
@[simp] theorem shiftSync_winY (s : State) : (shiftSync s).winY = s.winY := rfl
@[simp] theorem shiftSync_cursor (s : State) : (shiftSync s).cursor = s.cursor := rfl
@[simp] theorem shiftSync_colour (s : State) : (shiftSync s).colour = s.colour := rfl
@[simp] theorem shiftSync_lutSel (s : State) : (shiftSync s).lutSel = s.lutSel := rfl
@[simp] theorem shiftSync_imgBase (s : State) : (shiftSync s).imgBase = s.imgBase := rfl
@[simp] theorem shiftSync_imgLen (s : State) : (shiftSync s).imgLen = s.imgLen := rfl
@[simp] theorem shiftSync_doneIe (s : State) : (shiftSync s).doneIe = s.doneIe := rfl
@[simp] theorem shiftSync_active (s : State) : (shiftSync s).active = s.active := rfl
@[simp] theorem shiftSync_lutMode (s : State) : (shiftSync s).lutMode = s.lutMode := rfl
@[simp] theorem shiftSync_life (s : State) : (shiftSync s).life = s.life := rfl
@[simp] theorem shiftSync_result (s : State) : (shiftSync s).result = s.result := rfl
@[simp] theorem shiftSync_done (s : State) : (shiftSync s).done = s.done := rfl
@[simp] theorem shiftSync_dropped (s : State) : (shiftSync s).dropped = s.dropped := rfl
@[simp] theorem shiftSync_opCur (s : State) : (shiftSync s).opCur = s.opCur := rfl
@[simp] theorem shiftSync_stepNo (s : State) : (shiftSync s).stepNo = s.stepNo := rfl
@[simp] theorem shiftSync_todo (s : State) : (shiftSync s).todo = s.todo := rfl
@[simp] theorem shiftSync_frameIdx (s : State) : (shiftSync s).frameIdx = s.frameIdx := rfl
@[simp] theorem shiftSync_lOp (s : State) : (shiftSync s).lOp = s.lOp := rfl
@[simp] theorem shiftSync_lWinX (s : State) : (shiftSync s).lWinX = s.lWinX := rfl
@[simp] theorem shiftSync_lWinY (s : State) : (shiftSync s).lWinY = s.lWinY := rfl
@[simp] theorem shiftSync_lCursor (s : State) : (shiftSync s).lCursor = s.lCursor := rfl
@[simp] theorem shiftSync_lColour (s : State) : (shiftSync s).lColour = s.lColour := rfl
@[simp] theorem shiftSync_lTable (s : State) : (shiftSync s).lTable = s.lTable := rfl
@[simp] theorem shiftSync_lImgBase (s : State) : (shiftSync s).lImgBase = s.lImgBase := rfl
@[simp] theorem shiftSync_lImgLen (s : State) : (shiftSync s).lImgLen = s.lImgLen := rfl
@[simp] theorem shiftSync_polls (s : State) : (shiftSync s).polls = s.polls := rfl
@[simp] theorem shiftSync_waiting (s : State) : (shiftSync s).waiting = s.waiting := rfl
@[simp] theorem shiftSync_delayOn (s : State) : (shiftSync s).delayOn = s.delayOn := rfl
@[simp] theorem shiftSync_delayCnt (s : State) : (shiftSync s).delayCnt = s.delayCnt := rfl
@[simp] theorem shiftSync_sync (s : State) : (shiftSync s).sync = (s.busyI :: s.sync).take s.cfg.busySyncStages := rfl
@[simp] theorem shiftSync_lines (s : State) : (shiftSync s).lines = s.lines := rfl
@[simp] theorem shiftSync_rstN (s : State) : (shiftSync s).rstN = s.rstN := rfl
@[simp] theorem shiftSync_busyI (s : State) : (shiftSync s).busyI = s.busyI := rfl
@[simp] theorem shiftSync_txErrI (s : State) : (shiftSync s).txErrI = s.txErrI := rfl
@[simp] theorem shiftSync_rdata (s : State) : (shiftSync s).rdata = s.rdata := rfl
@[simp] theorem shiftSync_mem (s : State) : (shiftSync s).mem = s.mem := rfl
@[simp] theorem shiftSync_inputs (s : State) : (shiftSync s).inputs = s.inputs := rfl
@[simp] theorem shiftSync_log (s : State) : (shiftSync s).log = s.log := rfl
@[simp] theorem shiftSync_imgReads (s : State) : (shiftSync s).imgReads = s.imgReads := rfl

/-! ### takeInput -/

@[simp] theorem takeInput_cfg (s : State) : (s.takeInput).cfg = s.cfg := rfl
@[simp] theorem takeInput_winX (s : State) : (s.takeInput).winX = s.winX := rfl
@[simp] theorem takeInput_winY (s : State) : (s.takeInput).winY = s.winY := rfl
@[simp] theorem takeInput_cursor (s : State) : (s.takeInput).cursor = s.cursor := rfl
@[simp] theorem takeInput_colour (s : State) : (s.takeInput).colour = s.colour := rfl
@[simp] theorem takeInput_lutSel (s : State) : (s.takeInput).lutSel = s.lutSel := rfl
@[simp] theorem takeInput_imgBase (s : State) : (s.takeInput).imgBase = s.imgBase := rfl
@[simp] theorem takeInput_imgLen (s : State) : (s.takeInput).imgLen = s.imgLen := rfl
@[simp] theorem takeInput_doneIe (s : State) : (s.takeInput).doneIe = s.doneIe := rfl
@[simp] theorem takeInput_active (s : State) : (s.takeInput).active = s.active := rfl
@[simp] theorem takeInput_lutMode (s : State) : (s.takeInput).lutMode = s.lutMode := rfl
@[simp] theorem takeInput_life (s : State) : (s.takeInput).life = s.life := rfl
@[simp] theorem takeInput_result (s : State) : (s.takeInput).result = s.result := rfl
@[simp] theorem takeInput_done (s : State) : (s.takeInput).done = s.done := rfl
@[simp] theorem takeInput_dropped (s : State) : (s.takeInput).dropped = s.dropped := rfl
@[simp] theorem takeInput_opCur (s : State) : (s.takeInput).opCur = s.opCur := rfl
@[simp] theorem takeInput_stepNo (s : State) : (s.takeInput).stepNo = s.stepNo := rfl
@[simp] theorem takeInput_todo (s : State) : (s.takeInput).todo = s.todo := rfl
@[simp] theorem takeInput_frameIdx (s : State) : (s.takeInput).frameIdx = s.frameIdx := rfl
@[simp] theorem takeInput_lOp (s : State) : (s.takeInput).lOp = s.lOp := rfl
@[simp] theorem takeInput_lWinX (s : State) : (s.takeInput).lWinX = s.lWinX := rfl
@[simp] theorem takeInput_lWinY (s : State) : (s.takeInput).lWinY = s.lWinY := rfl
@[simp] theorem takeInput_lCursor (s : State) : (s.takeInput).lCursor = s.lCursor := rfl
@[simp] theorem takeInput_lColour (s : State) : (s.takeInput).lColour = s.lColour := rfl
@[simp] theorem takeInput_lTable (s : State) : (s.takeInput).lTable = s.lTable := rfl
@[simp] theorem takeInput_lImgBase (s : State) : (s.takeInput).lImgBase = s.lImgBase := rfl
@[simp] theorem takeInput_lImgLen (s : State) : (s.takeInput).lImgLen = s.lImgLen := rfl
@[simp] theorem takeInput_polls (s : State) : (s.takeInput).polls = s.polls := rfl
@[simp] theorem takeInput_waiting (s : State) : (s.takeInput).waiting = s.waiting := rfl
@[simp] theorem takeInput_delayOn (s : State) : (s.takeInput).delayOn = s.delayOn := rfl
@[simp] theorem takeInput_delayCnt (s : State) : (s.takeInput).delayCnt = s.delayCnt := rfl
@[simp] theorem takeInput_sync (s : State) : (s.takeInput).sync = s.sync := rfl
@[simp] theorem takeInput_lines (s : State) : (s.takeInput).lines = s.lines := rfl
@[simp] theorem takeInput_rstN (s : State) : (s.takeInput).rstN = s.nextInput.rstN := rfl
@[simp] theorem takeInput_busyI (s : State) : (s.takeInput).busyI = s.nextInput.busyI := rfl
@[simp] theorem takeInput_txErrI (s : State) : (s.takeInput).txErrI = s.nextInput.txErrI := rfl
@[simp] theorem takeInput_rdata (s : State) : (s.takeInput).rdata = s.rdata := rfl
@[simp] theorem takeInput_mem (s : State) : (s.takeInput).mem = s.mem.writes s.nextInput.hostMem := rfl
@[simp] theorem takeInput_inputs (s : State) : (s.takeInput).inputs = s.inputs.tail := rfl
@[simp] theorem takeInput_log (s : State) : (s.takeInput).log = s.log := rfl
@[simp] theorem takeInput_imgReads (s : State) : (s.takeInput).imgReads = s.imgReads := rfl

/-! ### writeStatus -/

@[simp] theorem writeStatus_cfg (v : Word) (s : State) : (writeStatus v s).cfg = s.cfg := rfl
@[simp] theorem writeStatus_winX (v : Word) (s : State) : (writeStatus v s).winX = s.winX := rfl
@[simp] theorem writeStatus_winY (v : Word) (s : State) : (writeStatus v s).winY = s.winY := rfl
@[simp] theorem writeStatus_cursor (v : Word) (s : State) : (writeStatus v s).cursor = s.cursor := rfl
@[simp] theorem writeStatus_colour (v : Word) (s : State) : (writeStatus v s).colour = s.colour := rfl
@[simp] theorem writeStatus_lutSel (v : Word) (s : State) : (writeStatus v s).lutSel = s.lutSel := rfl
@[simp] theorem writeStatus_imgBase (v : Word) (s : State) : (writeStatus v s).imgBase = s.imgBase := rfl
@[simp] theorem writeStatus_imgLen (v : Word) (s : State) : (writeStatus v s).imgLen = s.imgLen := rfl
@[simp] theorem writeStatus_doneIe (v : Word) (s : State) : (writeStatus v s).doneIe = s.doneIe := rfl
@[simp] theorem writeStatus_active (v : Word) (s : State) : (writeStatus v s).active = s.active := rfl
@[simp] theorem writeStatus_lutMode (v : Word) (s : State) : (writeStatus v s).lutMode = s.lutMode := rfl
@[simp] theorem writeStatus_life (v : Word) (s : State) : (writeStatus v s).life = s.life := rfl
@[simp] theorem writeStatus_result (v : Word) (s : State) : (writeStatus v s).result = s.result := rfl
@[simp] theorem writeStatus_done (v : Word) (s : State) : (writeStatus v s).done = (s.done && !v.getLsbD 12) := rfl
@[simp] theorem writeStatus_dropped (v : Word) (s : State) : (writeStatus v s).dropped = (s.dropped && !v.getLsbD 13) := rfl
@[simp] theorem writeStatus_opCur (v : Word) (s : State) : (writeStatus v s).opCur = s.opCur := rfl
@[simp] theorem writeStatus_stepNo (v : Word) (s : State) : (writeStatus v s).stepNo = s.stepNo := rfl
@[simp] theorem writeStatus_todo (v : Word) (s : State) : (writeStatus v s).todo = s.todo := rfl
@[simp] theorem writeStatus_frameIdx (v : Word) (s : State) : (writeStatus v s).frameIdx = s.frameIdx := rfl
@[simp] theorem writeStatus_lOp (v : Word) (s : State) : (writeStatus v s).lOp = s.lOp := rfl
@[simp] theorem writeStatus_lWinX (v : Word) (s : State) : (writeStatus v s).lWinX = s.lWinX := rfl
@[simp] theorem writeStatus_lWinY (v : Word) (s : State) : (writeStatus v s).lWinY = s.lWinY := rfl
@[simp] theorem writeStatus_lCursor (v : Word) (s : State) : (writeStatus v s).lCursor = s.lCursor := rfl
@[simp] theorem writeStatus_lColour (v : Word) (s : State) : (writeStatus v s).lColour = s.lColour := rfl
@[simp] theorem writeStatus_lTable (v : Word) (s : State) : (writeStatus v s).lTable = s.lTable := rfl
@[simp] theorem writeStatus_lImgBase (v : Word) (s : State) : (writeStatus v s).lImgBase = s.lImgBase := rfl
@[simp] theorem writeStatus_lImgLen (v : Word) (s : State) : (writeStatus v s).lImgLen = s.lImgLen := rfl
@[simp] theorem writeStatus_polls (v : Word) (s : State) : (writeStatus v s).polls = s.polls := rfl
@[simp] theorem writeStatus_waiting (v : Word) (s : State) : (writeStatus v s).waiting = s.waiting := rfl
@[simp] theorem writeStatus_delayOn (v : Word) (s : State) : (writeStatus v s).delayOn = s.delayOn := rfl
@[simp] theorem writeStatus_delayCnt (v : Word) (s : State) : (writeStatus v s).delayCnt = s.delayCnt := rfl
@[simp] theorem writeStatus_sync (v : Word) (s : State) : (writeStatus v s).sync = s.sync := rfl
@[simp] theorem writeStatus_lines (v : Word) (s : State) : (writeStatus v s).lines = s.lines := rfl
@[simp] theorem writeStatus_rstN (v : Word) (s : State) : (writeStatus v s).rstN = s.rstN := rfl
@[simp] theorem writeStatus_busyI (v : Word) (s : State) : (writeStatus v s).busyI = s.busyI := rfl
@[simp] theorem writeStatus_txErrI (v : Word) (s : State) : (writeStatus v s).txErrI = s.txErrI := rfl
@[simp] theorem writeStatus_rdata (v : Word) (s : State) : (writeStatus v s).rdata = s.rdata := rfl
@[simp] theorem writeStatus_mem (v : Word) (s : State) : (writeStatus v s).mem = s.mem := rfl
@[simp] theorem writeStatus_inputs (v : Word) (s : State) : (writeStatus v s).inputs = s.inputs := rfl
@[simp] theorem writeStatus_log (v : Word) (s : State) : (writeStatus v s).log = s.log := rfl
@[simp] theorem writeStatus_imgReads (v : Word) (s : State) : (writeStatus v s).imgReads = s.imgReads := rfl

/-! ### imageRead -/

@[simp] theorem afterReadLines_rstO (a : Word) (l : Lines) : (afterReadLines a l).rstO = l.rstO := rfl
@[simp] theorem afterReadLines_csO (a : Word) (l : Lines) : (afterReadLines a l).csO = l.csO := rfl
@[simp] theorem afterReadLines_dcO (a : Word) (l : Lines) : (afterReadLines a l).dcO = l.dcO := rfl
@[simp] theorem afterReadLines_sclkO (a : Word) (l : Lines) : (afterReadLines a l).sclkO = l.sclkO := rfl
@[simp] theorem afterReadLines_mosiO (a : Word) (l : Lines) : (afterReadLines a l).mosiO = l.mosiO := rfl
@[simp] theorem afterReadLines_imgReq (a : Word) (l : Lines) : (afterReadLines a l).imgReq = false := rfl
@[simp] theorem afterReadLines_imgAddr (a : Word) (l : Lines) : (afterReadLines a l).imgAddr = a := rfl


@[simp] theorem imageRead_cfg (a : Word) (s : State) : (imageRead a s).2.cfg = s.cfg := rfl
@[simp] theorem imageRead_winX (a : Word) (s : State) : (imageRead a s).2.winX = s.winX := rfl
@[simp] theorem imageRead_winY (a : Word) (s : State) : (imageRead a s).2.winY = s.winY := rfl
@[simp] theorem imageRead_cursor (a : Word) (s : State) : (imageRead a s).2.cursor = s.cursor := rfl
@[simp] theorem imageRead_colour (a : Word) (s : State) : (imageRead a s).2.colour = s.colour := rfl
@[simp] theorem imageRead_lutSel (a : Word) (s : State) : (imageRead a s).2.lutSel = s.lutSel := rfl
@[simp] theorem imageRead_imgBase (a : Word) (s : State) : (imageRead a s).2.imgBase = s.imgBase := rfl
@[simp] theorem imageRead_imgLen (a : Word) (s : State) : (imageRead a s).2.imgLen = s.imgLen := rfl
@[simp] theorem imageRead_doneIe (a : Word) (s : State) : (imageRead a s).2.doneIe = s.doneIe := rfl
@[simp] theorem imageRead_active (a : Word) (s : State) : (imageRead a s).2.active = s.active := rfl
@[simp] theorem imageRead_lutMode (a : Word) (s : State) : (imageRead a s).2.lutMode = s.lutMode := rfl
@[simp] theorem imageRead_life (a : Word) (s : State) : (imageRead a s).2.life = s.life := rfl
@[simp] theorem imageRead_result (a : Word) (s : State) : (imageRead a s).2.result = s.result := rfl
@[simp] theorem imageRead_done (a : Word) (s : State) : (imageRead a s).2.done = s.done := rfl
@[simp] theorem imageRead_dropped (a : Word) (s : State) : (imageRead a s).2.dropped = s.dropped := rfl
@[simp] theorem imageRead_opCur (a : Word) (s : State) : (imageRead a s).2.opCur = s.opCur := rfl
@[simp] theorem imageRead_stepNo (a : Word) (s : State) : (imageRead a s).2.stepNo = s.stepNo := rfl
@[simp] theorem imageRead_todo (a : Word) (s : State) : (imageRead a s).2.todo = s.todo := rfl
@[simp] theorem imageRead_frameIdx (a : Word) (s : State) : (imageRead a s).2.frameIdx = s.frameIdx := rfl
@[simp] theorem imageRead_lOp (a : Word) (s : State) : (imageRead a s).2.lOp = s.lOp := rfl
@[simp] theorem imageRead_lWinX (a : Word) (s : State) : (imageRead a s).2.lWinX = s.lWinX := rfl
@[simp] theorem imageRead_lWinY (a : Word) (s : State) : (imageRead a s).2.lWinY = s.lWinY := rfl
@[simp] theorem imageRead_lCursor (a : Word) (s : State) : (imageRead a s).2.lCursor = s.lCursor := rfl
@[simp] theorem imageRead_lColour (a : Word) (s : State) : (imageRead a s).2.lColour = s.lColour := rfl
@[simp] theorem imageRead_lTable (a : Word) (s : State) : (imageRead a s).2.lTable = s.lTable := rfl
@[simp] theorem imageRead_lImgBase (a : Word) (s : State) : (imageRead a s).2.lImgBase = s.lImgBase := rfl
@[simp] theorem imageRead_lImgLen (a : Word) (s : State) : (imageRead a s).2.lImgLen = s.lImgLen := rfl
@[simp] theorem imageRead_polls (a : Word) (s : State) : (imageRead a s).2.polls = s.polls := rfl
@[simp] theorem imageRead_waiting (a : Word) (s : State) : (imageRead a s).2.waiting = s.waiting := rfl
@[simp] theorem imageRead_delayOn (a : Word) (s : State) : (imageRead a s).2.delayOn = s.delayOn := rfl
@[simp] theorem imageRead_delayCnt (a : Word) (s : State) : (imageRead a s).2.delayCnt = s.delayCnt := rfl
@[simp] theorem imageRead_sync (a : Word) (s : State) : (imageRead a s).2.sync = s.sync := rfl
@[simp] theorem imageRead_lines (a : Word) (s : State) : (imageRead a s).2.lines = afterReadLines a s.lines := rfl
@[simp] theorem imageRead_rstN (a : Word) (s : State) : (imageRead a s).2.rstN = s.rstN := rfl
@[simp] theorem imageRead_busyI (a : Word) (s : State) : (imageRead a s).2.busyI = s.busyI := rfl
@[simp] theorem imageRead_txErrI (a : Word) (s : State) : (imageRead a s).2.txErrI = s.txErrI := rfl
@[simp] theorem imageRead_rdata (a : Word) (s : State) : (imageRead a s).2.rdata = s.rdata := rfl
@[simp] theorem imageRead_mem (a : Word) (s : State) : (imageRead a s).2.mem = s.mem := rfl
@[simp] theorem imageRead_inputs (a : Word) (s : State) : (imageRead a s).2.inputs = s.inputs := rfl
@[simp] theorem imageRead_log (a : Word) (s : State) : (imageRead a s).2.log = s.log := rfl
@[simp] theorem imageRead_imgReads (a : Word) (s : State) : (imageRead a s).2.imgReads = a :: s.imgReads := rfl

@[simp] theorem imageRead_byte (a : Word) (s : State) : (imageRead a s).1 = s.mem.read a.toNat := rfl

end Sys2Proof.Machine
end

