-- ==== Sys2Proof/Laws/Ops.lean ====
section
/-! SUPPORT. What each shared operation can do, said once: the provers cite these and do not unfold the operations. -/

namespace Sys2Proof.Machine

/-- Registers, latched copies, DROPPED and all outside the block are as before. -/
def Kept (s t : State) : Prop :=
  sameRegisters s t ∧ sameLatches s t ∧ sameOutside s t ∧ t.dropped = s.dropped

theorem Kept.refl (s : State) : Kept s s := by
  simp [Kept, sameRegisters, sameLatches, sameOutside]

theorem Kept.trans {s t u : State} (h : Kept s t) (h' : Kept t u) : Kept s u := by
  obtain ⟨a, b, c, d⟩ := h
  obtain ⟨a', b', c', d'⟩ := h'
  simp only [Kept, sameRegisters, sameLatches, sameOutside] at *
  simp_all

theorem Kept.cfg {s t : State} (h : Kept s t) : t.cfg = s.cfg := h.2.2.1.1

theorem Kept.mem {s t : State} (h : Kept s t) : t.mem = s.mem := h.2.2.1.2.1

theorem emit_kept (e : LineEvent) (s : State) : Kept s (emit e s) := Kept.refl s

theorem emitFrame_kept (k : FrameKind) (bs : List Byte) (s : State) : Kept s (emitFrame k bs s) := Kept.refl s

theorem complete_kept (r : ResultCode) (s : State) : Kept s (complete r s) := Kept.refl s

theorem abort_kept (r : ResultCode) (s : State) : Kept s (abort r s) := Kept.refl s

/-- The last of the levels an image read drives the lines through is what it leaves them at. -/
theorem imageReadWave_last (a : Word) (s : State) :
    (imageReadWave a s.lines).getLast? = some (imageRead a s).2.lines := rfl

theorem imageRead_kept (a : Word) (s : State) : Kept s (imageRead a s).2 := Kept.refl s

/-! ### settle -/

/-- An entry that takes a clock. -/
def Item.isAction : Item → Bool
  | .setState _ => false
  | .setLutMode _ => false
  | _ => true

/-- `settle` stops at the first action of the list, or completes the operation when there is none; in between it has written
STATE and LUT_MODE only. -/
theorem settle_cases (l : List Item) (s : State) :
    (∃ x m i r, i.isAction = true ∧ i :: r <:+ l ∧ settle l s = { s with life := x, lutMode := m, todo := i :: r })
      ∨ ((∀ i ∈ l, i.isAction = false) ∧ ∃ x m, settle l s = complete .ok { s with life := x, lutMode := m }) := by
  induction l generalizing s with
  | nil => exact .inr ⟨by simp, s.life, s.lutMode, rfl⟩
  | cons i r ih =>
    cases i with
    | setState x =>
      rcases ih { s with life := x } with ⟨x', m, i, r', hi, hr, h⟩ | ⟨hr, x', m, h⟩
      · exact .inl ⟨x', m, i, r', hi, hr.trans (List.suffix_cons _ _), h⟩
      · exact .inr ⟨by simpa [Item.isAction] using hr, x', m, h⟩
    | setLutMode t =>
      rcases ih { s with lutMode := t } with ⟨x', m, i, r', hi, hr, h⟩ | ⟨hr, x', m, h⟩
      · exact .inl ⟨x', m, i, r', hi, hr.trans (List.suffix_cons _ _), h⟩
      · exact .inr ⟨by simpa [Item.isAction] using hr, x', m, h⟩
    | rst v => exact .inl ⟨s.life, s.lutMode, .rst v, r, rfl, List.suffix_rfl, rfl⟩
    | delay ms => exact .inl ⟨s.life, s.lutMode, .delay ms, r, rfl, List.suffix_rfl, rfl⟩
    | busyWait => exact .inl ⟨s.life, s.lutMode, .busyWait, r, rfl, List.suffix_rfl, rfl⟩
    | cmd b a => exact .inl ⟨s.life, s.lutMode, .cmd b a, r, rfl, List.suffix_rfl, rfl⟩

theorem settle_action (i : Item) (r : List Item) (s : State) (h : i.isAction = true) :
    settle (i :: r) s = { s with todo := i :: r } := by
  cases i <;> first | rfl | simp [Item.isAction] at h

theorem settle_kept (l : List Item) (s : State) : Kept s (settle l s) := by
  rcases settle_cases l s with ⟨x, m, i, r, -, -, h⟩ | ⟨-, x, m, h⟩ <;> rw [h] <;> exact Kept.refl s

theorem settle_trace (l : List Item) (s : State) : sameTrace s (settle l s) ∧ (settle l s).polls = s.polls := by
  rcases settle_cases l s with ⟨x, m, i, r, -, -, h⟩ | ⟨-, x, m, h⟩ <;> rw [h] <;> exact ⟨⟨rfl, rfl, rfl⟩, rfl⟩

/-- When `settle` ends the operation, DONE is set and RESULT is OK. -/
theorem settle_ends (l : List Item) (s : State) (ha : s.active = true) (h : (settle l s).active = false) :
    (settle l s).done = true ∧ (settle l s).result = .ok := by
  rcases settle_cases l s with ⟨x, m, i, r, -, -, e⟩ | ⟨-, x, m, e⟩
  · rw [e] at h
    simp [ha] at h
  · rw [e]
    exact ⟨rfl, rfl⟩

theorem finishAction_kept (s : State) : Kept s (finishAction s) :=
  (Kept.refl s).trans (settle_kept _ { s with stepNo := s.stepNo + 1, frameIdx := 0, waiting := false, delayOn := false })

theorem finishAction_trace (s : State) : sameTrace s (finishAction s) ∧ (finishAction s).polls = s.polls :=
  settle_trace s.todo.tail { s with stepNo := s.stepNo + 1, frameIdx := 0, waiting := false, delayOn := false }

/-! ### Frames -/

/-- The last of the levels a frame drives the lines through is what it leaves them at. -/
theorem frameWave_last (k : FrameKind) (bs : List Byte) (l : Lines) :
    (frameWave k bs l).getLast? = some (afterFrameLines k l) := by
  unfold frameWave
  dsimp only
  rw [List.getLast?_append]
  rfl

theorem afterFrame_cases (last : Nat) (s : State) :
    (s.txErrI = true ∧ afterFrame last s = abort .transportError s)
      ∨ (s.txErrI = false ∧ s.frameIdx < last
        ∧ afterFrame last s = { s with frameIdx := s.frameIdx + 1, stepNo := s.stepNo + 1 })
      ∨ (s.txErrI = false ∧ ¬ s.frameIdx < last ∧ afterFrame last s = finishAction s) := by
  unfold afterFrame
  split
  · exact .inl ⟨‹_›, rfl⟩
  · split
    · exact .inr (.inl ⟨by simpa using ‹¬s.txErrI = true›, ‹_›, rfl⟩)
    · exact .inr (.inr ⟨by simpa using ‹¬s.txErrI = true›, ‹_›, rfl⟩)

theorem afterFrame_kept (last : Nat) (s : State) : Kept s (afterFrame last s) := by
  rcases afterFrame_cases last s with ⟨-, h⟩ | ⟨-, -, h⟩ | ⟨-, -, h⟩ <;> rw [h]
  · exact abort_kept _ s
  · exact Kept.refl s
  · exact finishAction_kept s

theorem afterFrame_log (last : Nat) (s : State) :
    (afterFrame last s).log = s.log ∧ (afterFrame last s).imgReads = s.imgReads
      ∧ (afterFrame last s).lines.rstO = s.lines.rstO := by
  rcases afterFrame_cases last s with ⟨-, h⟩ | ⟨-, -, h⟩ | ⟨-, -, h⟩ <;> rw [h]
  · exact ⟨rfl, rfl, rfl⟩
  · exact ⟨rfl, rfl, rfl⟩
  · obtain ⟨⟨hl, hr, hn⟩, -⟩ := finishAction_trace s
    exact ⟨hl, hr, by rw [hn]⟩

/-- A data frame changes the state only by the image read it may take. -/
theorem dataFrame_state (d : FrameData) (k : Nat) (s : State) :
    (dataFrame d k s).2 = s ∨ ∃ a, (dataFrame d k s).2 = (imageRead a s).2 := by
  cases d <;> first | exact .inl rfl | exact .inr ⟨_, rfl⟩

/-- What a panel command can do: send its next frame, or stop because all of its frames are sent. -/
theorem sendCommand_cases (b : Byte) (d : FrameData) (s : State) :
    (s.frameIdx = 0 ∧ sendCommand b d s = .next (afterFrame (d.count s.cfg) (emitFrame .cmd [b] s)))
      ∨ (s.frameIdx ≠ 0 ∧ s.frameIdx ≤ d.count s.cfg ∧ sendCommand b d s =
          .next (afterFrame (d.count s.cfg)
            (emitFrame .data (dataFrame d (s.frameIdx - 1) s).1 (dataFrame d (s.frameIdx - 1) s).2)))
      ∨ (d.count s.cfg < s.frameIdx ∧ sendCommand b d s = .fault .sequencerPosition) := by
  unfold sendCommand
  split
  · exact .inl ⟨‹_›, rfl⟩
  · split
    · exact .inr (.inl ⟨‹_›, ‹_›, rfl⟩)
    · exact .inr (.inr ⟨by omega, rfl⟩)

theorem sendCommand_kept (b : Byte) (d : FrameData) (s t : State) (h : sendCommand b d s = .next t) : Kept s t := by
  rcases sendCommand_cases b d s with ⟨-, e⟩ | ⟨-, -, e⟩ | ⟨-, e⟩ <;> rw [e] at h
  · cases h
    exact (emitFrame_kept _ _ s).trans (afterFrame_kept _ _)
  · cases h
    refine Kept.trans ?_ (afterFrame_kept _ _)
    rcases dataFrame_state d (s.frameIdx - 1) s with e' | ⟨a, e'⟩ <;> rw [e']
    · exact emitFrame_kept _ _ s
    · exact (imageRead_kept a s).trans (emitFrame_kept _ _ _)
  · cases h

/-! ### Delay, busy-wait and the reset line -/

theorem delayTick_cases (ms : Nat) (f : State → State) (s : State) :
    (s.delayOn = false ∧ delayTick ms f s = { s with delayOn := true, delayCnt := delayClocks s.cfg ms })
      ∨ (s.delayOn = true ∧ s.delayCnt = 0 ∧ delayTick ms f s = f (emit (.delay ms) { s with delayOn := false }))
      ∨ (s.delayOn = true ∧ s.delayCnt ≠ 0 ∧ delayTick ms f s = { s with delayCnt := s.delayCnt - 1 }) := by
  unfold delayTick
  split
  · exact .inl ⟨by simpa using ‹(!s.delayOn) = true›, rfl⟩
  · split
    · exact .inr (.inl ⟨by simpa using ‹¬(!s.delayOn) = true›, ‹_›, rfl⟩)
    · exact .inr (.inr ⟨by simpa using ‹¬(!s.delayOn) = true›, ‹_›, rfl⟩)

theorem delayAction_kept (ms : Nat) (s : State) : Kept s (delayAction ms s) := by
  rcases delayTick_cases ms finishAction s with ⟨-, h⟩ | ⟨-, -, h⟩ | ⟨-, -, h⟩ <;> rw [delayAction, h]
  · exact Kept.refl s
  · exact (Kept.refl s).trans (finishAction_kept (emit (.delay ms) { s with delayOn := false }))
  · exact Kept.refl s

/-- What one clock of a busy-wait can do (R141, R142). -/
theorem busyWaitAction_cases (s : State) :
    (s.delayOn = true ∧ busyWaitAction s = delayTick s.cfg.busyPollMs id s)
      ∨ (s.delayOn = false ∧ s.busySync = false ∧ busyWaitAction s =
          finishAction (emit (.poll false) { s with polls := if s.waiting then s.polls else 0 }))
      ∨ (s.delayOn = false ∧ s.busySync = true
        ∧ timedOut s.cfg ((if s.waiting then s.polls else 0) + 1) = true ∧ busyWaitAction s =
          abort .hardwareTimeout
            (emit (.poll true) { s with polls := (if s.waiting then s.polls else 0) + 1, waiting := true }))
      ∨ (s.delayOn = false ∧ s.busySync = true
        ∧ timedOut s.cfg ((if s.waiting then s.polls else 0) + 1) = false ∧ busyWaitAction s =
          emit (.poll true)
            { s with
              polls := (if s.waiting then s.polls else 0) + 1, waiting := true, delayOn := true,
              delayCnt := delayClocks s.cfg s.cfg.busyPollMs }) := by
  unfold busyWaitAction
  cases hd : s.delayOn
  · cases hb : s.busySync
    · exact .inr (.inl ⟨rfl, rfl, by simp⟩)
    · cases ht : timedOut s.cfg ((if s.waiting then s.polls else 0) + 1)
      · exact .inr (.inr (.inr ⟨rfl, rfl, rfl, by simp [ht, delayTick, emit]⟩))
      · exact .inr (.inr (.inl ⟨rfl, rfl, rfl, by simp [ht, emit]⟩))
  · exact .inl ⟨rfl, by simp⟩

theorem busyWaitAction_kept (s : State) : Kept s (busyWaitAction s) := by
  rcases busyWaitAction_cases s with ⟨-, h⟩ | ⟨-, -, h⟩ | ⟨-, -, -, h⟩ | ⟨-, -, -, h⟩ <;> rw [h]
  · rcases delayTick_cases s.cfg.busyPollMs id s with ⟨-, e⟩ | ⟨-, -, e⟩ | ⟨-, -, e⟩ <;> rw [e] <;> exact Kept.refl s
  · exact (Kept.refl s).trans
      (finishAction_kept (emit (.poll false) { s with polls := if s.waiting then s.polls else 0 }))
  · exact Kept.refl s
  · exact Kept.refl s

theorem rstAction_kept (v : Bool) (s : State) : Kept s (rstAction v s) :=
  (Kept.refl s).trans (finishAction_kept (emit (.rst v) { s with lines := { s.lines with rstO := v } }))

/-! ### A CMD write -/

/-- What a CMD write can do (R35, R93, R263). -/
theorem acceptCommand_cases (op : BitVec 4) (plan : State → List Item) (s : State) :
    (s.active = true ∧ acceptCommand op plan s = { s with dropped := true })
      ∨ (s.active = false ∧ ∃ r, startChecks op (latch op s) = some r ∧ (legalOp op = false → r = .illegalOp)
        ∧ acceptCommand op plan s = complete r (latch op s))
      ∨ (s.active = false ∧ legalOp op = true ∧ startChecks op (latch op s) = none
        ∧ acceptCommand op plan s = settle (plan (latch op s)) (latch op s)) := by
  unfold acceptCommand
  cases ha : s.active
  · cases hc : startChecks op (latch op s) with
    | some r => exact .inr (.inl ⟨rfl, r, rfl, fun hl => by simpa [startChecks, hl, eq_comm] using hc, by simp [hc]⟩)
    | none =>
      have hl : legalOp op = true := by
        cases hl : legalOp op
        · simp [startChecks, hl] at hc
        · rfl
      exact .inr (.inr ⟨rfl, hl, rfl, by simp [hc]⟩)
  · exact .inl ⟨rfl, by simp⟩

/-- A CMD write sends nothing and touches no argument register and nothing outside the block. -/
theorem acceptCommand_sends_nothing (op : BitVec 4) (plan : State → List Item) (s : State) :
    sameRegisters s (acceptCommand op plan s) ∧ sameOutside s (acceptCommand op plan s)
      ∧ sameTrace s (acceptCommand op plan s) := by
  rcases acceptCommand_cases op plan s with ⟨-, h⟩ | ⟨-, r, -, -, h⟩ | ⟨-, -, -, h⟩ <;> rw [h]
  · exact ⟨(Kept.refl s).1, (Kept.refl s).2.2.1, rfl, rfl, rfl⟩
  · exact ⟨(Kept.refl s).1, (Kept.refl s).2.2.1, rfl, rfl, rfl⟩
  · obtain ⟨hr, -, ho, -⟩ := settle_kept (plan (latch op s)) (latch op s)
    exact ⟨hr, ho, (settle_trace (plan (latch op s)) (latch op s)).1⟩

end Sys2Proof.Machine
end

