-- ==== Sys2Proof/Laws/PerInstr.lean ====
section
/-! SUPPORT. Facts of every instruction as syntax, one lemma a constructor. -/

namespace Sys2Proof.Laws.TableRow

/-- The code of `i` is the row the opcode table gives it: a CMD word whose OP field `hostOpOf` reads as `i` and whose bits
[31:4] are 0, or a command byte that `commandOf` reads as `i`, or the instance's PARTIAL_OPT_CMD. -/
def Statement (i : Instr) : Prop :=
  ∀ optCmd : Byte,
    match encode optCmd i with
    | .hostWord w => hostOpOf (opField w) = some i ∧ w.extractLsb' 4 28 = 0#28
    | .commandByte b => commandOf b = some i ∨ (i = .partialOpt ∧ b = optCmd)

theorem reset : Statement .reset := fun _ => by simp only [encode]; decide

theorem init : Statement .init := fun _ => by simp only [encode]; decide

theorem setWindow : Statement .setWindow := fun _ => by simp only [encode]; decide

theorem setCursor : Statement .setCursor := fun _ => by simp only [encode]; decide

theorem setLut : Statement .setLut := fun _ => by simp only [encode]; decide

theorem display : Statement .display := fun _ => by simp only [encode]; decide

theorem displayBase : Statement .displayBase := fun _ => by simp only [encode]; decide

theorem displayPartial : Statement .displayPartial := fun _ => by simp only [encode]; decide

theorem clear : Statement .clear := fun _ => by simp only [encode]; decide

theorem sleep : Statement .sleep := fun _ => by simp only [encode]; decide

theorem swReset : Statement .swReset := fun _ => .inl rfl

theorem driverOutputControl : Statement .driverOutputControl := fun _ => .inl rfl

theorem dataEntryMode : Statement .dataEntryMode := fun _ => .inl rfl

theorem ramWindowX : Statement .ramWindowX := fun _ => .inl rfl

theorem ramWindowY : Statement .ramWindowY := fun _ => .inl rfl

theorem ramCursorX : Statement .ramCursorX := fun _ => .inl rfl

theorem ramCursorY : Statement .ramCursorY := fun _ => .inl rfl

theorem displayUpdateControl1 : Statement .displayUpdateControl1 := fun _ => .inl rfl

theorem displayUpdateControl2 : Statement .displayUpdateControl2 := fun _ => .inl rfl

theorem writeRamBw : Statement .writeRamBw := fun _ => .inl rfl

theorem writeRamRed : Statement .writeRamRed := fun _ => .inl rfl

theorem masterActivation : Statement .masterActivation := fun _ => .inl rfl

theorem writeLut : Statement .writeLut := fun _ => .inl rfl

theorem lutEndOption : Statement .lutEndOption := fun _ => .inl rfl

theorem gateVoltage : Statement .gateVoltage := fun _ => .inl rfl

theorem sourceVoltage : Statement .sourceVoltage := fun _ => .inl rfl

theorem writeVcom : Statement .writeVcom := fun _ => .inl rfl

theorem borderWaveform : Statement .borderWaveform := fun _ => .inl rfl

theorem deepSleep : Statement .deepSleep := fun _ => .inl rfl

theorem partialOpt : Statement .partialOpt := fun _ => .inr ⟨rfl, rfl⟩

end Sys2Proof.Laws.TableRow
end

