-- ==== Sys2Proof/Laws/Step.lean ====
section
/-! SUPPORT. The meanings, the host's access and the clock, inverted once each. -/

namespace Sys2Proof.Machine

theorem andThen_next {o : Answer} {f : State → Answer} {t : State} (h : andThen o f = .next t) :
    ∃ s, o = .next s ∧ f s = .next t := by
  cases o with
  | next s => exact ⟨s, rfl, h⟩
  | fault r => cases h
  | refused r => cases h

/-- The codes of R92. -/
theorem hostOpOf_some : ∀ op : BitVec 4, (hostOpOf op).isSome = true →
    op ∈ [0x1#4, 0x2#4, 0x3#4, 0x4#4, 0x5#4, 0x6#4, 0x7#4, 0x8#4, 0x9#4, 0xA#4] := by decide

/-- The fixed bytes of R95. -/
theorem commandOf_some : ∀ b : Byte, (commandOf b).isSome = true → b ∈ fixedCommandBytes := by decide

/-- A host operation is a CMD write with its code and its action list. -/
theorem exec_hostOp (op : BitVec 4) (i : Instr) (h : hostOpOf op = some i) (s : State) :
    exec i s = .next (acceptCommand op (planOf op) s) := by
  have hop := hostOpOf_some op (by rw [h]; rfl)
  simp only [List.mem_cons, List.not_mem_nil, or_false] at hop
  rcases hop with rfl | rfl | rfl | rfl | rfl | rfl | rfl | rfl | rfl | rfl <;> cases h <;> rfl

/-- A panel command sends its byte and the data of R95. -/
theorem exec_command (b : Byte) (i : Instr) (s : State) (h : decode s.cfg.partialOptCmd (.commandByte b) = .ok i) :
    exec i s = sendCommand b (dataOf s.cfg s.args i) s := by
  unfold decode at h
  dsimp only at h
  split at h
  · rename_i j hj
    cases h
    have hb := commandOf_some b (by rw [hj]; rfl)
    simp only [fixedCommandBytes, List.mem_cons, List.not_mem_nil, or_false] at hb
    rcases hb with rfl | rfl | rfl | rfl | rfl | rfl | rfl | rfl | rfl | rfl | rfl | rfl | rfl | rfl | rfl | rfl | rfl
      | rfl | rfl <;> cases hj <;> first | rfl | skip
    · show execDeepSleep s = _
      unfold execDeepSleep deepSleepFrames
      show _ = sendCommand 0x10#8 (.each s.cfg.deepSleepData.toList) s
      cases s.cfg.deepSleepData <;> rfl
  · split at h
    · cases h
      rename_i hb
      subst hb
      rfl
    · cases h

/-- What the host's access can do (R72, R75). -/
theorem hostAccess_cases (a : Access) (s : State) :
    (a.wf s.cfg = false ∧ hostAccess a s = .refused .undefinedAccess)
      ∨ (a.wf s.cfg = true ∧ a.write = false
        ∧ hostAccess a s = .next { s with rdata := readReg (a.offset s.cfg) s })
      ∨ (a.wf s.cfg = true ∧ a.write = true ∧ a.offset s.cfg ≠ 0
        ∧ hostAccess a s = .next (writeReg (a.offset s.cfg) a.data s))
      ∨ (a.wf s.cfg = true ∧ a.write = true ∧ a.offset s.cfg = 0
        ∧ hostAccess a s = .next (acceptCommand (opField a.data) (planOf (opField a.data)) s)) := by
  unfold hostAccess
  cases hw : a.wf s.cfg
  · exact .inl ⟨rfl, by simp⟩
  · cases hr : a.write
    · exact .inr (.inl ⟨rfl, rfl, by simp⟩)
    · by_cases ho : a.offset s.cfg = 0
      · refine .inr (.inr (.inr ⟨rfl, rfl, ho, ?_⟩))
        simp only [Bool.not_true, Bool.false_eq_true, if_false, if_true, ho]
        unfold writeCmd decode
        dsimp only
        cases hi : hostOpOf (opField a.data) with
        | some i => exact exec_hostOp _ i hi s
        | none =>
          have hp : planOf (opField a.data) = fun _ => [] := by
            funext u
            simp [planOf, hi]
          rw [hp]
      · exact .inr (.inr (.inl ⟨rfl, rfl, ho, by simp [ho]⟩))

/-- What the sequencer's action can do. -/
theorem sequencerAction_cases (s : State) :
    (∃ v r, s.todo = .rst v :: r ∧ sequencerAction s = .next (rstAction v s))
      ∨ (∃ ms r, s.todo = .delay ms :: r ∧ sequencerAction s = .next (delayAction ms s))
      ∨ (∃ r, s.todo = .busyWait :: r ∧ sequencerAction s = .next (busyWaitAction s))
      ∨ (∃ b a r i, s.todo = .cmd b a :: r ∧ decode s.cfg.partialOptCmd (.commandByte b) = .ok i
        ∧ sequencerAction s = exec i s ∧ exec i s = sendCommand b (dataOf s.cfg a i) s)
      ∨ (∃ b a r e, s.todo = .cmd b a :: r ∧ decode s.cfg.partialOptCmd (.commandByte b) = .error e
        ∧ sequencerAction s = .refused .unknownCommand)
      ∨ ((∀ i ∈ s.todo.head?, i.isAction = false) ∧ sequencerAction s = .fault .sequencerPosition) := by
  unfold sequencerAction
  cases ht : s.todo with
  | nil => exact .inr (.inr (.inr (.inr (.inr ⟨by simp, rfl⟩))))
  | cons x r =>
    cases x with
    | rst v => exact .inl ⟨v, r, rfl, rfl⟩
    | delay ms => exact .inr (.inl ⟨ms, r, rfl, rfl⟩)
    | busyWait => exact .inr (.inr (.inl ⟨r, rfl, rfl⟩))
    | cmd b a =>
      cases hd : decode s.cfg.partialOptCmd (.commandByte b) with
      | ok i =>
        refine .inr (.inr (.inr (.inl ⟨b, a, r, i, rfl, hd, by simp [hd], ?_⟩)))
        have ha : s.args = a := by simp [State.args, ht]
        rw [exec_command b i s hd, ha]
      | error e => exact .inr (.inr (.inr (.inr (.inl ⟨b, a, r, e, rfl, hd, by simp [hd]⟩))))
    | setState x => exact .inr (.inr (.inr (.inr (.inr ⟨by simp [Item.isAction], rfl⟩))))
    | setLutMode t => exact .inr (.inr (.inr (.inr (.inr ⟨by simp [Item.isAction], rfl⟩))))

/-- The sequencer touches no argument register, no latched copy and nothing outside the block. -/
theorem sequencerAction_kept (s t : State) (h : sequencerAction s = .next t) : Kept s t := by
  rcases sequencerAction_cases s with ⟨v, r, -, e⟩ | ⟨ms, r, -, e⟩ | ⟨r, -, e⟩ | ⟨b, a, r, i, -, -, e, e'⟩
    | ⟨b, a, r, x, -, -, e⟩ | ⟨-, e⟩
  · rw [e] at h
    cases h
    exact rstAction_kept v s
  · rw [e] at h
    cases h
    exact delayAction_kept ms s
  · rw [e] at h
    cases h
    exact busyWaitAction_kept s
  · rw [e, e'] at h
    exact sendCommand_kept _ _ s t h
  · rw [e] at h
    cases h
  · rw [e] at h
    cases h

/-- What a clock that answers a next state has done (R48, R271, R300). -/
theorem step_cases (s t : State) (h : step s = .next t) :
    s.cfg.valid = true ∧
      ((s.nextInput.rstN = false ∧ t = blockReset s.takeInput)
        ∨ (s.nextInput.rstN = true ∧ ∃ u v, hostPhase s.nextInput.access s.takeInput = .next u
          ∧ sequencerPhase s.active s.nextInput.stall u = .next v ∧ t = shiftSync v)) := by
  unfold step clock at h
  cases hv : s.cfg.valid
  · simp [hv] at h
  · simp only [hv, Bool.not_true, Bool.false_eq_true, if_false] at h
    refine ⟨rfl, ?_⟩
    cases hr : s.nextInput.rstN
    · simp only [hr, Bool.not_false, if_true] at h
      cases h
      exact .inl ⟨rfl, rfl⟩
    · simp only [hr, Bool.not_true, Bool.false_eq_true, if_false] at h
      obtain ⟨u, hu, h⟩ := andThen_next h
      obtain ⟨v, hv', h⟩ := andThen_next h
      cases h
      exact .inr ⟨rfl, u, v, hu, hv', rfl⟩

end Sys2Proof.Machine
end

