-- ==== Sys2Proof/Tests/Slice0.lean ====
section
/-! SUPPORT. Tests on small instances, each a check of one word or of one step against a value the spec gives, and a witness for
the hypotheses of every statement that has some. -/

namespace Sys2Proof.Tests

open Sys2Proof Sys2Proof.Machine

/-! ### The ill-formed terms, refused -/

theorem test_suggested_instance_accepted : Params.suggested.valid = true := by decide

/-- The bounds of R6 themselves are inside. -/
theorem test_bounds_accepted :
    { Params.suggested with width := 2048, height := 65535 }.valid = true
      ∧ { Params.suggested with width := 8, height := 1, busyTimeoutPolls := some 1 }.valid = true := by decide

theorem test_width_not_multiple_of_8_refused : { Params.suggested with width := 130 }.valid = false := by decide

theorem test_width_zero_refused : { Params.suggested with width := 0 }.valid = false := by decide

theorem test_width_too_large_refused : { Params.suggested with width := 2056 }.valid = false := by decide

theorem test_height_zero_refused : { Params.suggested with height := 0 }.valid = false := by decide

theorem test_height_too_large_refused : { Params.suggested with height := 65536 }.valid = false := by decide

theorem test_timeout_zero_refused : { Params.suggested with busyTimeoutPolls := some 0 }.valid = false := by decide

theorem test_opt_command_clash_refused : { Params.suggested with partialOptCmd := 0x22#8 }.valid = false := by decide

theorem test_partial_opt_ill_formed : Instr.wf 0x12#8 .partialOpt = false := by decide

theorem test_partial_opt_well_formed : Instr.wf 0x37#8 .partialOpt = true := by decide

/-- The bus access of the tests, on the suggested instance's window at 0. -/
def busAt (w : Bool) (addr data : Word) : Access := { write := w, size := .word, addr := addr, data := data }

theorem test_byte_access_ill_formed : { busAt false 0x04#32 0#32 with size := .byte }.wf Params.suggested = false := by decide

theorem test_half_access_ill_formed : { busAt true 0x04#32 0#32 with size := .half }.wf Params.suggested = false := by decide

theorem test_double_access_ill_formed : { busAt true 0x08#32 0#32 with size := .double }.wf Params.suggested = false := by
  decide

theorem test_misaligned_access_ill_formed : (busAt false 0x06#32 0#32).wf Params.suggested = false := by decide

theorem test_access_above_window_ill_formed : (busAt false 0x40#32 0#32).wf Params.suggested = false := by decide

theorem test_access_below_window_ill_formed :
    (busAt false 0x1000#32 0#32).wf { Params.suggested with regBase := 0x1004#32 } = false := by decide

/-! ### Words, written out from R91, R92 and R95 -/

theorem test_decode_reset : decode 0x37#8 (.hostWord 0b00000000000000000000000000000001#32) = .ok .reset := rfl
theorem test_decode_init : decode 0x37#8 (.hostWord 0b00000000000000000000000000000010#32) = .ok .init := rfl
theorem test_decode_setWindow : decode 0x37#8 (.hostWord 0b00000000000000000000000000000011#32) = .ok .setWindow := rfl
theorem test_decode_setCursor : decode 0x37#8 (.hostWord 0b00000000000000000000000000000100#32) = .ok .setCursor := rfl
theorem test_decode_setLut : decode 0x37#8 (.hostWord 0b00000000000000000000000000000101#32) = .ok .setLut := rfl
theorem test_decode_display : decode 0x37#8 (.hostWord 0b11111111111111111111111111110110#32) = .ok .display := rfl
theorem test_decode_displayBase : decode 0x37#8 (.hostWord 0b00000000000000000000000000000111#32) = .ok .displayBase := rfl
theorem test_decode_displayPartial : decode 0x37#8 (.hostWord 0b00000000000000000000000000001000#32) = .ok .displayPartial :=
  rfl
theorem test_decode_clear : decode 0x37#8 (.hostWord 0b00000000000000000000000000001001#32) = .ok .clear := rfl
theorem test_decode_sleep : decode 0x37#8 (.hostWord 0b00000000000000000000000000001010#32) = .ok .sleep := rfl
theorem test_decode_swReset : decode 0x37#8 (.commandByte 0b00010010#8) = .ok .swReset := rfl
theorem test_decode_driverOutputControl : decode 0x37#8 (.commandByte 0b00000001#8) = .ok .driverOutputControl := rfl
theorem test_decode_dataEntryMode : decode 0x37#8 (.commandByte 0b00010001#8) = .ok .dataEntryMode := rfl
theorem test_decode_ramWindowX : decode 0x37#8 (.commandByte 0b01000100#8) = .ok .ramWindowX := rfl
theorem test_decode_ramWindowY : decode 0x37#8 (.commandByte 0b01000101#8) = .ok .ramWindowY := rfl
theorem test_decode_ramCursorX : decode 0x37#8 (.commandByte 0b01001110#8) = .ok .ramCursorX := rfl
theorem test_decode_ramCursorY : decode 0x37#8 (.commandByte 0b01001111#8) = .ok .ramCursorY := rfl
theorem test_decode_displayUpdateControl1 : decode 0x37#8 (.commandByte 0b00100001#8) = .ok .displayUpdateControl1 := rfl
theorem test_decode_displayUpdateControl2 : decode 0x37#8 (.commandByte 0b00100010#8) = .ok .displayUpdateControl2 := rfl
theorem test_decode_writeRamBw : decode 0x37#8 (.commandByte 0b00100100#8) = .ok .writeRamBw := rfl
theorem test_decode_writeRamRed : decode 0x37#8 (.commandByte 0b00100110#8) = .ok .writeRamRed := rfl
theorem test_decode_masterActivation : decode 0x37#8 (.commandByte 0b00100000#8) = .ok .masterActivation := rfl
theorem test_decode_writeLut : decode 0x37#8 (.commandByte 0b00110010#8) = .ok .writeLut := rfl
theorem test_decode_lutEndOption : decode 0x37#8 (.commandByte 0b00111111#8) = .ok .lutEndOption := rfl
theorem test_decode_gateVoltage : decode 0x37#8 (.commandByte 0b00000011#8) = .ok .gateVoltage := rfl
theorem test_decode_sourceVoltage : decode 0x37#8 (.commandByte 0b00000100#8) = .ok .sourceVoltage := rfl
theorem test_decode_writeVcom : decode 0x37#8 (.commandByte 0b00101100#8) = .ok .writeVcom := rfl
theorem test_decode_borderWaveform : decode 0x37#8 (.commandByte 0b00111100#8) = .ok .borderWaveform := rfl
theorem test_decode_deepSleep : decode 0x37#8 (.commandByte 0b00010000#8) = .ok .deepSleep := rfl
theorem test_decode_partialOpt : decode 0x37#8 (.commandByte 0b00110111#8) = .ok .partialOpt := rfl

/-- V18, V19. -/
theorem test_decode_reserved :
    decode 0x37#8 (.hostWord 0x00000000#32) = .error (.reservedOp 0x0#4)
      ∧ decode 0x37#8 (.hostWord 0x0000000B#32) = .error (.reservedOp 0xB#4)
      ∧ decode 0x37#8 (.hostWord 0x0000000F#32) = .error (.reservedOp 0xF#4) := ⟨rfl, rfl, rfl⟩

theorem test_decode_unknown_command : decode 0x37#8 (.commandByte 0x00#8) = .error (.unknownCommand 0x00#8) := rfl

theorem test_table_words :
    decodeTableWord 32 0x00000001 = some .reset ∧ decodeTableWord 8 0x01 = some .driverOutputControl
      ∧ decodeTableWord 8 0x37 = some .partialOpt ∧ decodeTableWord 32 0x0000000F = none := by decide

/-! ### Small machines -/

/-- 16 × 3 (V87), a millisecond of two clocks, and tables whose byte k is k (FULL) and 200 - k (PARTIAL). -/
def small : Params :=
  { Params.suggested with
    width := 16, height := 3, clkHz := 2000,
    lutFull := Vector.ofFn fun k => BitVec.ofNat 8 k.val,
    lutPartial := Vector.ofFn fun k => BitVec.ofNat 8 (200 - k.val) }

/-- An idle block in a STATE, the panel idle. -/
def idleIn (x : LifeState) : State := { State.resetOf small with life := x, sync := [false, false] }

/-- Ready for an image of 6 bytes at 0x1000, with img_mem(0x1000 + n) = 0x11 × (n + 1). -/
def ready : State :=
  { idleIn .lutLoaded with
    imgBase := 0x1000#32, imgLen := 6#32, winX := 0x00770008#32, winY := 0x00C80010#32, cursor := 0x01270078#32,
    colour := 0xAA#8, lutSel := .part,
    mem := [(0x1000, 0x11#8), (0x1001, 0x22#8), (0x1002, 0x33#8), (0x1003, 0x44#8), (0x1004, 0x55#8), (0x1005, 0x66#8)] }

/-- The host's next access. -/
def withAccess (a : Access) (s : State) : State := { s with inputs := [{ s.quietInput with access := some a }] }

/-- A write to CMD next. -/
def withCmd (w : Word) (s : State) : State := withAccess (busAt true 0x00#32 w) s

/-- An operation is at the command `b` with `k` of its frames sent, a busy-wait after it. -/
def atCommand (b : Byte) (a : Args) (k : Nat) : State :=
  { ready with
    active := true, opCur := some 0x8#4, lOp := 0x8#4, lImgBase := 0x1000#32, lImgLen := 6#32, life := .displaying,
    todo := [.cmd b a, .busyWait], frameIdx := k }

/-- The state after an answer, if there is one. -/
def nextOf (o : Answer) : Option State :=
  match o with
  | .next s => some s
  | _ => none

/-- The newest line event after one step. -/
def eventOf (s : State) : Option LineEvent := (nextOf (step s)).bind fun t => t.log.head?

/-- STATUS after one step. -/
def statusOf (s : State) : Option Word := (nextOf (step s)).map statusWord

/-- What is left to do after one step. -/
def todoOf (s : State) : Option (List Item) := (nextOf (step s)).map State.todo

/-! ### Host operations: the first clock -/

/-- R201: STATE = HARDWARE_RESET; R146: the pulse comes first. -/
theorem test_reset_starts :
    statusOf (withCmd 0x1#32 (idleIn .sleeping)) = some 0x00000011#32
      ∧ (todoOf (withCmd 0x1#32 (idleIn .sleeping))).map (List.take 2) = some [.rst true, .delay 50] := by decide

/-- V67: INIT is accepted in SLEEPING. -/
theorem test_init_starts : statusOf (withCmd 0x2#32 (idleIn .sleeping)) = some 0x00000011#32 := by decide

/-- V25: x 8..119, y 16..200. -/
theorem test_setWindow_starts :
    todoOf (withCmd 0x3#32 ready) =
      some [.cmd 0x44#8 { xs := 8#16, xe := 119#16 }, .cmd 0x45#8 { ys := 16#16, ye := 200#16 }] := by decide

/-- V59. -/
theorem test_setWindow_refused : statusOf (withCmd 0x3#32 (idleIn .uninitialized)) = some 0x00001300#32 := by decide

/-- V27: x = 120, y = 295. -/
theorem test_setCursor_starts :
    todoOf (withCmd 0x4#32 ready) =
      some [.cmd 0x4E#8 { x := 120#16 }, .cmd 0x4F#8 { y := 295#16 }, .busyWait] := by decide

/-- R215: the table LUT_SEL names. -/
theorem test_setLut_starts :
    (todoOf (withCmd 0x5#32 ready)).map (List.take 1) = some [.cmd 0x32#8 { table := .part }] := by decide

/-- V58, with STATE = DISPLAYING when it is accepted (R201). -/
theorem test_display_starts :
    statusOf (withCmd 0xFFFFFFF6#32 ready) = some 0x00000041#32
      ∧ statusOf (withCmd 0x6#32 (idleIn .uninitialized)) = some 0x00001300#32 := by decide

/-- V100: an empty image. -/
theorem test_display_noop : statusOf (withCmd 0x6#32 { ready with imgLen := 0#32 }) = some 0x00001130#32 := by decide

/-- V101: one byte short. -/
theorem test_displayBase_wrong_length : statusOf (withCmd 0x7#32 { ready with imgLen := 5#32 }) = some 0x00001230#32 := by
  decide

/-- R217: both banks. -/
theorem test_displayBase_starts :
    (todoOf (withCmd 0x7#32 ready)).map (List.take 2) =
      some [.cmd 0x24#8 { source := .image }, .cmd 0x26#8 { source := .image }] := by decide

/-- V102: one byte over. -/
theorem test_displayPartial_wrong_length :
    statusOf (withCmd 0x8#32 { ready with imgLen := 7#32 }) = some 0x00001230#32 := by decide

/-- V82: the LUT is loaded first. -/
theorem test_displayPartial_starts :
    (todoOf (withCmd 0x8#32 ready)).map (List.take 1) = some [.cmd 0x32#8 { table := .part }] := by decide

/-- V103: CLEAR does not read IMG_LEN. -/
theorem test_clear_starts :
    (todoOf (withCmd 0x9#32 { ready with imgLen := 0#32 })).map (List.take 1) =
      some [.cmd 0x24#8 { source := .fill 0xAA#8 }] := by decide

/-- V62. -/
theorem test_clear_refused : statusOf (withCmd 0x9#32 (idleIn .configuring)) = some 0x00001320#32 := by decide

/-- V69, V60: SLEEP is accepted in FAULT and not in UNINITIALIZED; STATE keeps its value while it runs (R201). -/
theorem test_sleep_starts :
    statusOf (withCmd 0xA#32 (idleIn .fault)) = some 0x00000061#32
      ∧ statusOf (withCmd 0xA#32 (idleIn .uninitialized)) = some 0x00001300#32 := by decide

/-- V86: SLEEP's settle delay, then RST 0. -/
theorem test_sleep_actions :
    todoOf (withCmd 0xA#32 ready) =
      some [.cmd 0x10#8 {}, .delay 2000, .rst false, .setState .sleeping] := by decide

/-- V97: a reserved code. -/
theorem test_reserved_op : statusOf (withCmd 0xC#32 ready) = some 0x00001630#32 := by decide

/-- R45: a CMD write accepted with a reserved OP copies the op code and the arguments as any other. -/
theorem test_reserved_op_latches :
    (nextOf (step (withCmd 0xC#32 ready))).map (fun t => (t.lOp, t.lCursor, t.lTable, t.lImgLen, t.active)) =
      some (0xC#4, 0x01270078#32, .part, 6#32, false) := by decide

/-- R71: img_req is 1 while the address is on img_addr and the byte is taken. -/
theorem test_image_read_raises_img_req :
    (imageReadWave 0x1004#32 ready.lines).map (fun l => (l.imgReq, l.imgAddr)) =
      [(true, 0x1004#32), (false, 0x1004#32)] := by decide

/-- V107: dropped while ACTIVE. -/
theorem test_dropped_while_active :
    (nextOf (step (withCmd 0x9#32 (atCommand 0x20#8 {} 0)))).map (fun t => (t.dropped, t.opCur)) =
      some (true, some 0x8#4) := by decide

/-! ### Panel commands: one frame each -/

/-- V1. -/
theorem test_swReset : eventOf (atCommand 0x12#8 {} 0) = some (.frame .cmd [0x12#8]) := by decide

/-- V4: three data frames, the first 0x27, the last 0x00. -/
theorem test_driverOutputControl :
    eventOf (atCommand 0x01#8 {} 1) = some (.frame .data [0x27#8])
      ∧ eventOf (atCommand 0x01#8 {} 3) = some (.frame .data [0x00#8])
      ∧ (todoOf (atCommand 0x01#8 {} 3)) = some [.busyWait] := by decide

/-- R173. -/
theorem test_dataEntryMode : eventOf (atCommand 0x11#8 {} 1) = some (.frame .data [0x07#8]) := by decide

/-- V24, V25: x = 8 and x = 127. -/
theorem test_ramWindowX :
    eventOf (atCommand 0x44#8 { xs := 8#16, xe := 127#16 } 1) = some (.frame .data [0x01#8])
      ∧ eventOf (atCommand 0x44#8 { xs := 8#16, xe := 127#16 } 2) = some (.frame .data [0x0F#8]) := by decide

/-- V21, V22: y = 295 and y = 256. -/
theorem test_ramWindowY :
    eventOf (atCommand 0x45#8 { ys := 256#16, ye := 295#16 } 2) = some (.frame .data [0x01#8])
      ∧ eventOf (atCommand 0x45#8 { ys := 256#16, ye := 295#16 } 3) = some (.frame .data [0x27#8]) := by decide

/-- W2: x = 2048 wraps to 0, x = 0xFFFF gives 0xFF. -/
theorem test_ramCursorX :
    eventOf (atCommand 0x4E#8 { x := 2048#16 } 1) = some (.frame .data [0x00#8])
      ∧ eventOf (atCommand 0x4E#8 { x := 0xFFFF#16 } 1) = some (.frame .data [0xFF#8]) := by decide

/-- V27. -/
theorem test_ramCursorY :
    eventOf (atCommand 0x4F#8 { y := 295#16 } 1) = some (.frame .data [0x27#8])
      ∧ eventOf (atCommand 0x4F#8 { y := 295#16 } 2) = some (.frame .data [0x01#8]) := by decide

/-- R178. -/
theorem test_displayUpdateControl1 : eventOf (atCommand 0x21#8 {} 2) = some (.frame .data [0x80#8]) := by decide

/-- R99. -/
theorem test_displayUpdateControl2 :
    eventOf (atCommand 0x22#8 { activation := .full } 1) = some (.frame .data [0xC7#8])
      ∧ eventOf (atCommand 0x22#8 { activation := .part } 1) = some (.frame .data [0x0F#8])
      ∧ eventOf (atCommand 0x22#8 { activation := .partialMode } 1) = some (.frame .data [0xC0#8]) := by decide

/-- V87: the first byte sent is image index 3, the last index 2; each is read as it is sent. -/
theorem test_writeRamBw :
    eventOf (atCommand 0x24#8 {} 1) = some (.frame .data [0x44#8])
      ∧ eventOf (atCommand 0x24#8 {} 6) = some (.frame .data [0x33#8])
      ∧ (nextOf (step (atCommand 0x24#8 {} 6))).map State.imgReads = some [0x1002#32] := by decide

/-- V94: the fill reads no image byte. -/
theorem test_writeRamRed :
    eventOf (atCommand 0x26#8 { source := .fill 0x00#8 } 6) = some (.frame .data [0x00#8])
      ∧ (nextOf (step (atCommand 0x26#8 { source := .fill 0x00#8 } 6))).map State.imgReads = some []
      ∧ todoOf (atCommand 0x26#8 { source := .fill 0x00#8 } 6) = some [.busyWait] := by decide

/-- V51. -/
theorem test_masterActivation : todoOf (atCommand 0x20#8 {} 0) = some [.busyWait] := by decide

/-- V3, V52: one frame of T[0..152]. -/
theorem test_writeLut :
    eventOf (atCommand 0x32#8 { table := .full } 1) =
      some (.frame .data ((List.range 153).map fun k => BitVec.ofNat 8 k)) := by decide

/-- R160: T[153]. -/
theorem test_lutEndOption : eventOf (atCommand 0x3F#8 { table := .full } 1) = some (.frame .data [153#8]) := by decide

/-- R160: T[154] of the PARTIAL table. -/
theorem test_gateVoltage : eventOf (atCommand 0x03#8 { table := .part } 1) = some (.frame .data [46#8]) := by decide

/-- R160: T[155] goes first. -/
theorem test_sourceVoltage_first : eventOf (atCommand 0x04#8 { table := .full } 1) = some (.frame .data [155#8]) := by decide

/-- R160: and T[157] last. -/
theorem test_sourceVoltage_last : eventOf (atCommand 0x04#8 { table := .full } 3) = some (.frame .data [157#8]) := by decide

/-- R160: T[158]. -/
theorem test_writeVcom : eventOf (atCommand 0x2C#8 { table := .full } 1) = some (.frame .data [158#8]) := by decide

/-- V55. -/
theorem test_borderWaveform : eventOf (atCommand 0x3C#8 {} 1) = some (.frame .data [0x80#8]) := by decide

/-- V56: one data frame with `some b`, none with NONE. -/
theorem test_deepSleep :
    eventOf (atCommand 0x10#8 {} 1) = some (.frame .data [0x01#8])
      ∧ todoOf { atCommand 0x10#8 {} 0 with cfg := { small with deepSleepData := none } } = some [.busyWait] := by decide

/-- V57, V82: ten data frames, the sixth 0x40. -/
theorem test_partialOpt :
    eventOf (atCommand 0x37#8 {} 6) = some (.frame .data [0x40#8]) ∧ todoOf (atCommand 0x37#8 {} 10) = some [.busyWait] := by
  decide

/-! ### Registers, polls, aborts, reset -/

/-- V29 and V31. -/
theorem test_register_reads :
    readReg 0x28 State.reset = 0x01280080#32 ∧ readReg 0x00 State.reset = 0#32 ∧ readReg 0x30 ready = 0#32 := by decide

/-- V30. -/
theorem test_reset_status : statusWord State.reset = 0x00000002#32 := by decide

/-- V32 and V33. -/
theorem test_reserved_register_bits :
    (nextOf (step (withAccess (busAt true 0x14#32 0x12345678#32) ready))).map (readReg 0x14) = some 0x00000078#32
      ∧ (nextOf (step (withAccess (busAt true 0x18#32 0xFFFFFFFF#32) ready))).map (readReg 0x18) = some 0x00000001#32 := by
  decide

/-- V109. -/
theorem test_status_write :
    statusOf (withAccess (busAt true 0x04#32 0xFFFFFFFF#32) { ready with done := true, dropped := true }) =
      some 0x00000030#32 := by decide

/-- V110: the last action of an operation ends in the clock of the host's clear. -/
theorem test_set_of_done_wins :
    statusOf (withAccess (busAt true 0x04#32 0x00001000#32) { atCommand 0x20#8 {} 0 with todo := [.cmd 0x20#8 {}], done := true })
      = some 0x00001040#32 := by decide

/-- V11 and V7. -/
theorem test_busy_wait :
    (nextOf (step { atCommand 0x20#8 {} 0 with
        todo := [.busyWait], sync := [true, true], cfg := { small with busyTimeoutPolls := some 1 } })).map
      (fun t => (t.log, t.life, t.result)) = some ([.poll true], .fault, .hardwareTimeout)
      ∧ (nextOf (step { atCommand 0x20#8 {} 0 with todo := [.busyWait, .rst true] })).map (fun t => (t.log, t.todo)) =
        some ([.poll false], [.rst true]) := by decide

/-- V38: the last frame of set_lut fails, and LUT_MODE stays. -/
theorem test_lut_mode_kept_on_abort :
    (nextOf (step { atCommand 0x2C#8 { table := .part } 1 with
        todo := [.cmd 0x2C#8 { table := .part }, .setLutMode .part], txErrI := true })).map
      (fun t => (t.lutMode, t.life, t.result, t.active)) = some (.full, .fault, .transportError, false) := by decide

/-- V35, V36: and moves when it does not fail. -/
theorem test_lut_mode_after_last_frame :
    (nextOf (step { atCommand 0x2C#8 { table := .part } 1 with
        todo := [.cmd 0x2C#8 { table := .part }, .setLutMode .part] })).map State.lutMode = some .part := by decide

/-- V112, V113: rst_n low in the middle of an operation, and in a clock of a host write. -/
theorem test_block_reset :
    (nextOf (step { atCommand 0x24#8 {} 3 with
        inputs := [{ (atCommand 0x24#8 {} 3).quietInput with
          rstN := false, access := some (busAt true 0x14#32 0xFF#32) }] })).map
      (fun t => (statusWord t, t.colour, t.lines.csO, t.lines.rstO, t.trace)) =
      some (0x00000002#32, 0#8, true, false, []) := by decide

/-- R72. -/
theorem test_narrow_access_refused :
    step (withAccess { busAt false 0x04#32 0#32 with size := .byte } ready) = .refused .undefinedAccess := rfl

/-- V2: the bits of 0x27, bit 7 first. -/
theorem test_bit_order :
    ((frameWave .data [0x27#8] (State.resetOf small).lines).filter (·.sclkO)).map (·.mosiO) =
      [false, false, true, false, false, true, true, true] := by decide

/-- V88, V89, V90, and the default panel's k = 0, 295, 296, 4440, 4735. -/
theorem test_image_index :
    (List.range 6).map (imageIndex { small with width := 24, height := 2 }) = [4, 5, 2, 3, 0, 1]
      ∧ (List.range 5).map (imageIndex { small with width := 8, height := 5 }) = [0, 1, 2, 3, 4]
      ∧ (List.range 4).map (imageIndex { small with width := 32, height := 1 }) = [3, 2, 1, 0]
      ∧ [0, 295, 296, 4440, 4735].map (imageIndex Params.suggested) = [4440, 4735, 4144, 0, 295] := by decide

/-- V92. -/
theorem test_image_address_wraps : imageAddr 0xFFFFFF00#32 4440 = 0x00001058#32 := by decide

/-- The very next step runs a row's instruction. -/
theorem test_fetch_word :
    statusOf (State.reset.withFetchWord 32 0x2) = some 0x00000013#32
      ∧ eventOf (State.reset.withFetchWord 8 0x12) = some (.frame .cmd [0x12#8]) := by decide

/-! ### Witnesses: a concrete state and operands that meet all the hypotheses of a statement -/

theorem witness_DecodeEncodeRoundTrip :
    Instr.wf 0x37#8 .partialOpt = true ∧ encode 0x37#8 .display = .hostWord 0x6#32
      ∧ (0xFFFFFFF6#32).extractLsb' 0 4 = (0x6#32).extractLsb' 0 4 := by decide

theorem witness_DecodedCodeIsTheEncoding :
    optCommandOk 0x37#8 = true ∧ decode 0x37#8 (.hostWord 0xFFFFFFF6#32) = .ok .display
      ∧ decode 0x37#8 (.commandByte 0x37#8) = .ok .partialOpt := ⟨by decide, rfl, rfl⟩

/-- One word for each clause, bits [31:4] set. -/
theorem witness_HostWordsDecode :
    (∀ k ∈ [0, 1, 2, 3, 4, 5, 6, 7, 8, 9, 10, 15], (BitVec.ofNat 32 (0xFFF0 + k)).toNat % 16 = k) ∧ 0xB ≤ 11 ∧ 0xB ≤ 15 := by
  simp

theorem witness_CommandSpace : optCommandOk 0x37#8 = true := by decide

/-- A clock with rst_n = 0 in the middle of an operation. -/
theorem witness_ResetValues :
    small.valid = true ∧ 1 ≤ small.busySyncStages ∧ ∃ s : State, s.cfg = small ∧ s.nextInput.rstN = false ∧ s.active = true :=
  ⟨by decide, by decide,
    { atCommand 0x24#8 {} 3 with inputs := [{ (atCommand 0x24#8 {} 3).quietInput with rstN := false }] }, rfl, rfl, rfl⟩

theorem witness_ResetMeetsInvariant : small.valid = true := by decide

/-- rst_n low while an operation runs. -/
def resetNext : State := { atCommand 0x24#8 {} 3 with inputs := [{ (atCommand 0x24#8 {} 3).quietInput with rstN := false }] }

theorem witness_BlockResetWins : resetNext.cfg.valid = true ∧ resetNext.nextInput.rstN = false := by decide

/-- One value just outside each bound. -/
theorem witness_InstanceOutsideBoundsRefused :
    small.width % 8 = 0 ∧ 12 % 8 ≠ 0 ∧ 0 < 8 ∧ 2048 < 2056 ∧ 65535 < 65536 ∧ (0x10#8 : Byte) ∈ fixedCommandBytes := by decide

/-- A state of an instance just outside a bound of R6, and of one that takes a fixed command byte for PARTIAL_OPT_CMD (R190), and
the step each refuses. -/
theorem witness_InstanceOutsideBoundsRefused_step :
    { ready with cfg := { small with width := 12 } }.cfg.width % 8 ≠ 0
      ∧ step { ready with cfg := { small with width := 12 } } = .refused .invalidInstance
      ∧ { ready with cfg := { small with height := 65536 } }.cfg.height > 65535
      ∧ step { ready with cfg := { small with height := 65536 } } = .refused .invalidInstance
      ∧ { ready with cfg := { small with partialOptCmd := 0x10#8 } }.cfg.partialOptCmd ∈ fixedCommandBytes
      ∧ step { ready with cfg := { small with partialOptCmd := 0x10#8 } } = .refused .invalidInstance :=
  ⟨by decide, rfl, by decide, rfl, by decide, rfl⟩

/-- The last offset inside the window, and the first outside it. -/
theorem witness_UndefinedAccessRefused :
    (busAt false 0x3C#32 0#32).size = .word ∧ ((busAt false 0x3C#32 0#32).addr - small.regBase).toNat % 4 = 0
      ∧ ((busAt false 0x3C#32 0#32).addr - small.regBase).toNat < 0x40
      ∧ ¬ ((busAt false 0x40#32 0#32).addr - small.regBase).toNat < 0x40 := by decide

/-- Every clause has its offset. -/
theorem witness_RegisterReads :
    ∀ off ∈ [0x00, 0x04, 0x08, 0x0C, 0x10, 0x14, 0x18, 0x1C, 0x20, 0x24, 0x28, 0x2C, 0x3C],
      (busAt false (BitVec.ofNat 32 off) 0#32).wf small = true ∧ (busAt false (BitVec.ofNat 32 off) 0#32).write = false
        ∧ (busAt false (BitVec.ofNat 32 off) 0#32).offset small = off := by decide

theorem witness_GeometryIsConstant :
    ready.cfg.valid = true ∧ (busAt true 0x28#32 0xFFFF#32).wf small = true ∧ (busAt true 0x28#32 0xFFFF#32).write = true
      ∧ (busAt true 0x28#32 0xFFFF#32).offset small = 0x28 ∧ (∃ t, step ready = .next t)
      ∧ Params.suggested.width = 128 ∧ Params.suggested.height = 296 :=
  ⟨by decide, by decide, rfl, by decide, ⟨_, rfl⟩, rfl, rfl⟩

theorem witness_RegisterWriteReadBack :
    ∀ off ∈ [0x08, 0x14, 0x18, 0x20, 0x24, 0x28, 0x3C],
      (busAt true (BitVec.ofNat 32 off) 0xFF#32).wf small = true
        ∧ (busAt true (BitVec.ofNat 32 off) 0xFF#32).write = true
        ∧ (busAt true (BitVec.ofNat 32 off) 0xFF#32).offset small = off ∧ off ≠ 0 ∧ off ≠ 0x04 := by
  simp [busAt, Access.wf, Access.offset, small, Params.suggested]

/-- A 1 in bit 12 and a 0 in bit 13, and the other way round. -/
theorem witness_StatusWriteClears :
    ∀ v ∈ [0x1000#32, 0x2000#32],
      (busAt true 0x04#32 v).wf small = true ∧ (busAt true 0x04#32 v).write = true
        ∧ (busAt true 0x04#32 v).offset small = 0x04 ∧ (v.getLsbD 12 = true ↔ v.getLsbD 13 = false) := by
  simp [busAt, Access.wf, Access.offset, small, Params.suggested]

theorem witness_CommandDroppedWhileActive :
    hostOpOf 0x9#4 = some .clear ∧ (atCommand 0x24#8 {} 3).active = true := by decide

/-- Each of the ten operations starts from `ready`. -/
theorem witness_AcceptedOperationStarts :
    ∀ i ∈ [Instr.reset, .init, .setWindow, .setCursor, .setLut, .display, .displayBase, .displayPartial, .clear, .sleep],
      CanStart i ready ∧ (takesImage i = true → ready.imgLen ≠ 0#32) :=
  fun i hi => by unfold CanStart; revert i; decide

theorem witness_NotAcceptedOperationReportsNotInitialized :
    hostOpOf 0x6#4 = some .display ∧ (idleIn .sleeping).active = false ∧ (idleIn .sleeping).life ∉ acceptedIn .display := by
  decide

theorem witness_EmptyImageIsNoop :
    hostOpOf 0x7#4 = some .displayBase ∧ takesImage .displayBase = true ∧ (idleIn .lutLoaded).active = false
      ∧ (idleIn .lutLoaded).life = .lutLoaded ∧ (idleIn .lutLoaded).imgLen = 0#32 := by decide

/-- One byte short of the 6 of a 16 × 3 panel. -/
theorem witness_WrongLengthIsInvalidBufferSize :
    hostOpOf 0x8#4 = some .displayPartial ∧ takesImage .displayPartial = true ∧ ready.active = false
      ∧ ready.life = .lutLoaded ∧ { ready with imgLen := 5#32 }.imgLen ≠ 0#32
      ∧ { ready with imgLen := 5#32 }.imgLen.toNat ≠ small.height * (small.width / 8) := by decide

theorem ready_idleOk : IdleOk ready := by unfold IdleOk; decide

/-- The reserved codes at the ends of their ranges. -/
theorem witness_ReservedOpIsIllegalOp :
    (∀ w ∈ [0x00000000#32, 0x0000000B#32, 0x0000000F#32], w.toNat % 16 = 0 ∨ 11 ≤ w.toNat % 16)
      ∧ ready.active = false ∧ IdleOk ready := ⟨by simp, rfl, ready_idleOk⟩

/-- The CMD frame and the last data frame of 0x01, and DEEP_SLEEP_DATA both ways. -/
theorem witness_ParameterCommandFrames :
    (∀ k ∈ [0, 3], (atCommand 0x01#8 {} k).frameIdx = k ∧ (atCommand 0x01#8 {} k).txErrI = false ∧ k < 4)
      ∧ { small with deepSleepData := none }.deepSleepData = none ∧ small.deepSleepData = some 0x01#8 := by decide

theorem witness_ArgumentCommandFrames :
    (atCommand 0x45#8 { ys := 256#16, ye := 295#16 } 4).todo = [.cmd 0x45#8 { ys := 256#16, ye := 295#16 }, .busyWait]
      ∧ (atCommand 0x45#8 { ys := 256#16, ye := 295#16 } 4).frameIdx = 4
      ∧ (atCommand 0x45#8 { ys := 256#16, ye := 295#16 } 4).txErrI = false
      ∧ ({ activation := .part } : Args).activation = .part ∧ ({ activation := .partialMode } : Args).activation = .partialMode
      ∧ ({} : Args).activation = .full := by decide

theorem witness_LutCommandFrames :
    (atCommand 0x32#8 { table := .part } 1).todo = [.cmd 0x32#8 { table := .part }, .busyWait]
      ∧ (({ table := .part } : Args).table = .part → small.lutPartial = small.lutPartial)
      ∧ (atCommand 0x32#8 { table := .part } 1).frameIdx = 1 ∧ (atCommand 0x32#8 { table := .part } 1).txErrI = false :=
  ⟨rfl, fun _ => rfl, rfl, rfl⟩

theorem witness_FillCommandFrames :
    (atCommand 0x26#8 { source := .fill 0xFF#8 } 6).todo = [.cmd 0x26#8 { source := .fill 0xFF#8 }, .busyWait]
      ∧ ({ source := .fill 0xFF#8 } : Args).source = .fill 0xFF#8
      ∧ (atCommand 0x26#8 { source := .fill 0xFF#8 } 6).frameIdx = 6 := by decide

/-- The CMD frame, and the first and the last image byte. -/
theorem witness_ImageCommandFrames :
    ∀ k ∈ [0, 1, 6],
      (atCommand 0x24#8 {} k).todo = [.cmd 0x24#8 {}, .busyWait] ∧ ({} : Args).source = .image
        ∧ 1 ≤ small.height * (small.width / 8) ∧ (atCommand 0x24#8 {} k).txErrI = false ∧ (atCommand 0x24#8 {} k).frameIdx = k
        ∧ k ≤ small.height * (small.width / 8) := by decide

theorem witness_PanelCommandFrame :
    decode (atCommand 0x20#8 {} 0).cfg.partialOptCmd (.commandByte 0x20#8) = .ok .masterActivation
      ∧ (∃ t, exec .masterActivation (atCommand 0x20#8 {} 0) = .next t) ∧ (atCommand 0x20#8 {} 0).txErrI = false
      ∧ ∃ x r, (atCommand 0x20#8 {} 0).todo.tail = x :: r ∧ x.actions small ≠ 0 :=
  ⟨rfl, ⟨_, rfl⟩, rfl, .busyWait, [], rfl, by decide⟩

theorem witness_TransportErrorAborts :
    (atCommand 0x24#8 {} 0).frameIdx = 0 ∧ (atCommand 0x24#8 {} 6).frameIdx = 5 + 1 ∧
    decode small.partialOptCmd (.commandByte 0x24#8) = .ok .writeRamBw
      ∧ { atCommand 0x24#8 {} 6 with txErrI := true }.txErrI = true
      ∧ (atCommand 0x24#8 {} 6).frameIdx ≤ (dataOf small (atCommand 0x24#8 {} 6).args .writeRamBw).count small :=
  ⟨rfl, rfl, rfl, rfl, by decide⟩

theorem witness_FrameWaveSendsBitsMsbFirst : ready.lines.sclkO = false := rfl

theorem witness_ResetLineDriven :
    { ready with todo := [.rst true, .delay 50] }.todo = .rst true :: [.delay 50]
      ∧ ∃ i r', [Item.delay 50] = i :: r' ∧ (i = .busyWait ∨ ∃ ms, i = .delay ms) :=
  ⟨rfl, .delay 50, [], rfl, .inr ⟨50, rfl⟩⟩

/-- At a busy-wait, with a limit of 3 samples: the second and the third busy sample. -/
def waitingAt (busy : Bool) (polls : Nat) (limit : Option Nat) : State :=
  { atCommand 0x20#8 {} 0 with
    todo := [.busyWait], waiting := true, polls := polls, sync := [busy, busy], busyI := busy,
    cfg := { small with busyTimeoutPolls := limit } }

/-- Idle; busy with the count below the limit; busy with the count at it. -/
theorem witness_BusyWaitSample :
    (∀ b ∈ [false, true], ∀ n ∈ [1, 2], (waitingAt b n (some 3)).todo = [.busyWait] ∧ (waitingAt b n (some 3)).delayOn = false
        ∧ (waitingAt b n (some 3)).busySync = b)
      ∧ (nextOf (sequencerAction (waitingAt true 1 (some 3)))).map State.polls = some 2
      ∧ (nextOf (sequencerAction (waitingAt true 2 (some 3)))).map State.polls = some 3 := by decide

/-- The poll delay running, with the panel's next answers 1 then 0; and a busy sample below and at the limit. -/
def pollDelay : State :=
  let s := waitingAt true 1 (some 3)
  { s with delayOn := true, delayCnt := 2, inputs := [{ s.quietInput with busyI := true }, { s.quietInput with busyI := false }] }

theorem witness_DelayHoldsTheLines :
    { ready with active := true, todo := [.delay 50] }.cfg.valid = true
      ∧ { ready with active := true, todo := [.delay 50] }.inputs = [] ∧ ready.rstN = true ∧ ready.delayOn = false := by decide

theorem waitingAt_stuck : StuckBusy (waitingAt true 1 none) := ⟨rfl, rfl, rfl, by decide⟩

theorem witness_StuckBusyHangs :
    (waitingAt true 1 none).cfg.valid = true ∧ (waitingAt true 1 none).active = true
      ∧ (waitingAt true 1 none).cfg.busyTimeoutPolls = none ∧ StuckBusy (waitingAt true 1 none)
      ∧ (waitingAt true 1 none).todo = [.busyWait] := ⟨by decide, rfl, rfl, waitingAt_stuck, rfl⟩

theorem witness_BusySynchroniserDelaysTwoClocks :
    ∃ t u, ready.cfg.busySyncStages = 2 ∧ ready.sync.length = 2 ∧ ready.nextInput.rstN = true ∧ t.nextInput.rstN = true
      ∧ step ready = .next t ∧ step t = .next u := ⟨_, _, rfl, rfl, rfl, rfl, rfl, rfl⟩

theorem witness_StepRunsHostOperation :
    (withCmd 0xFFFFFFF6#32 ready).cfg.valid = true ∧ (withCmd 0xFFFFFFF6#32 ready).nextInput.rstN = true
      ∧ (withCmd 0xFFFFFFF6#32 ready).active = false
      ∧ (withCmd 0xFFFFFFF6#32 ready).nextInput.access = some (busAt true 0x00#32 0xFFFFFFF6#32)
      ∧ (busAt true 0x00#32 0xFFFFFFF6#32).wf small = true ∧ (busAt true 0x00#32 0xFFFFFFF6#32).offset small = 0
      ∧ decode small.partialOptCmd (.hostWord 0xFFFFFFF6#32) = .ok .display :=
  ⟨by decide, rfl, rfl, rfl, by decide, by decide, rfl⟩

theorem witness_StepRunsPanelCommand :
    (atCommand 0x24#8 {} 3).cfg.valid = true ∧ (atCommand 0x24#8 {} 3).nextInput.rstN = true
      ∧ (atCommand 0x24#8 {} 3).nextInput.access = none ∧ (atCommand 0x24#8 {} 3).nextInput.stall = false
      ∧ (atCommand 0x24#8 {} 3).active = true ∧ (atCommand 0x24#8 {} 3).todo = [.cmd 0x24#8 {}, .busyWait]
      ∧ decode small.partialOptCmd (.commandByte 0x24#8) = .ok .writeRamBw := ⟨by decide, rfl, rfl, rfl, rfl, rfl, rfl⟩

theorem ready_inv : Inv ready :=
  ⟨by decide, by decide, rfl, ⟨rfl, rfl, rfl, rfl⟩, fun _ => ready_idleOk, fun h => by cases h⟩

/-- SET_LUT with TABLE = 1 before its last frame. -/
def lastLutFrame : State :=
  { ready with
    active := true, opCur := some 0x5#4, lOp := 0x5#4, lTable := .part, stepNo := 12, frameIdx := 1,
    todo := [.cmd 0x2C#8 { table := .part }, .setLutMode .part, .setState .lutLoaded] }

theorem lastLutFrame_inv : Inv lastLutFrame :=
  ⟨by decide, by decide, rfl, ⟨rfl, rfl, rfl, rfl⟩, fun h => Bool.noConfusion h,
    fun _ => ⟨rfl, rfl, rfl, by decide, by decide, rfl⟩⟩

theorem witness_StepKeepsInvariant : ∃ t, Inv lastLutFrame ∧ step lastLutFrame = .next t := ⟨_, lastLutFrame_inv, rfl⟩

theorem witness_InvariantStatesGoOn : Inv ready ∧ Inv lastLutFrame := ⟨ready_inv, lastLutFrame_inv⟩

theorem witness_OnlyHostWritesImageMemory : ∃ t, step lastLutFrame = .next t := ⟨_, rfl⟩

/-- A write of COLOUR while an operation runs. -/
theorem witness_RegistersOnlyByHostWrite :
    ∃ t, (withAccess (busAt true 0x14#32 0xFF#32) lastLutFrame).nextInput.rstN = true
      ∧ step (withAccess (busAt true 0x14#32 0xFF#32) lastLutFrame) = .next t ∧ t.colour = 0xFF#8 ∧ t.lColour = 0#8 :=
  ⟨_, rfl, rfl, rfl, rfl⟩

theorem witness_LatchedArgumentsFixedWhileActive :
    ∃ t, (withAccess (busAt true 0x08#32 0xFF#32) lastLutFrame).active = true
      ∧ (withAccess (busAt true 0x08#32 0xFF#32) lastLutFrame).nextInput.rstN = true
      ∧ step (withAccess (busAt true 0x08#32 0xFF#32) lastLutFrame) = .next t := ⟨_, rfl, rfl, rfl⟩

theorem witness_IdleBlockSendsNothing :
    ∃ t, (withAccess (busAt true 0x04#32 0x1000#32) ready).active = false
      ∧ (withAccess (busAt true 0x04#32 0x1000#32) ready).nextInput.rstN = true
      ∧ step (withAccess (busAt true 0x04#32 0x1000#32) ready) = .next t
      ∧ (busAt true 0x04#32 0x1000#32).offset small ≠ 0 := ⟨_, rfl, rfl, rfl, by decide⟩

/-- A STATUS write that clears DROPPED only, with DONE and DROPPED set: DONE stays. -/
theorem witness_IdleBlockSendsNothing_sticky :
    let s := withAccess (busAt true 0x04#32 0x2000#32) { ready with done := true, dropped := true }
    noStatusClear 12 s ∧ s.done = true ∧ s.active = false ∧ ∃ t, step s = .next t ∧ t.done = true ∧ t.dropped = false :=
  ⟨fun a h _ _ => (by cases h; rfl), rfl, rfl, _, rfl, rfl, rfl⟩

theorem witness_OneEventAClock :
    ∃ t, (atCommand 0x24#8 {} 1).nextInput.rstN = true ∧ step (atCommand 0x24#8 {} 1) = .next t := ⟨_, rfl, rfl⟩

theorem witness_EndOfOperationSetsDone :
    ∃ t, (withAccess (busAt true 0x04#32 0x1000#32) lastLutFrame).active = true
      ∧ (withAccess (busAt true 0x04#32 0x1000#32) lastLutFrame).nextInput.rstN = true
      ∧ step (withAccess (busAt true 0x04#32 0x1000#32) lastLutFrame) = .next t ∧ t.active = false := ⟨_, rfl, rfl, rfl, rfl⟩

/-- A clock after which the operation goes on, with no access, and one with a dropped CMD write. -/
theorem witness_EndOfOperationSetsDone_running :
    (∃ t, noStatusClear 12 pollDelay ∧ step pollDelay = .next t ∧ t.active = true)
      ∧ ∃ t, step (withCmd 0x9#32 lastLutFrame) = .next t ∧ t.dropped = true :=
  ⟨⟨_, fun a h _ _ => (by cases h), rfl, rfl⟩, _, rfl, rfl⟩

theorem witness_CommandInLastClockDropped :
    ∃ t, (withCmd 0x9#32 lastLutFrame).active = true ∧ (withCmd 0x9#32 lastLutFrame).nextInput.rstN = true
      ∧ (withCmd 0x9#32 lastLutFrame).nextInput.access = some (busAt true 0x00#32 0x9#32)
      ∧ (busAt true 0x00#32 0x9#32).wf small = true ∧ (busAt true 0x00#32 0x9#32).offset small = 0
      ∧ step (withCmd 0x9#32 lastLutFrame) = .next t ∧ t.active = false :=
  ⟨_, rfl, rfl, rfl, by decide, by decide, rfl, rfl⟩

theorem witness_LutModeOnlyAfterLastLutFrame :
    ∃ t, Inv lastLutFrame ∧ lastLutFrame.nextInput.rstN = true ∧ step lastLutFrame = .next t
      ∧ t.lutMode ≠ lastLutFrame.lutMode ∧ lastLutFrame.active = true ∧ lastLutFrame.frameIdx = 1
      ∧ lastLutFrame.nextInput.stall = false ∧ lastLutFrame.nextInput.txErrI = false :=
  ⟨_, lastLutFrame_inv, rfl, rfl, by decide, rfl, rfl, rfl, rfl⟩

theorem witness_FaultOnlyByAbort :
    ∃ s t, Inv s ∧ step s = .next t ∧ t.life = .fault ∧ s.life ≠ .fault :=
  ⟨{ lastLutFrame with txErrI := true }, _,
    ⟨lastLutFrame_inv.cfg_valid, lastLutFrame_inv.mem_wf, rfl, ⟨rfl, rfl, rfl, rfl⟩, fun h => Bool.noConfusion h,
      fun _ => lastLutFrame_inv.running rfl⟩,
    rfl, rfl, by decide⟩

theorem witness_TraceStaysInAlphabet :
    ∃ t, Inv lastLutFrame ∧ (∀ e ∈ lastLutFrame.log, eventAllowed small e = true) ∧ step lastLutFrame = .next t :=
  ⟨_, lastLutFrame_inv, by decide, rfl⟩

theorem witness_StepNumberBounded : Inv lastLutFrame := lastLutFrame_inv

/-- The smallest instance and a two-column one. -/
theorem witness_ImageIndexBijection : { small with width := 8, height := 1 }.valid = true ∧ small.valid = true := by decide

theorem witness_ImageIndexFollowsTheLoop :
    small.valid = true ∧ 5 < small.imgBytes ∧ Params.suggested.width = 128 ∧ Params.suggested.height = 296
      ∧ (atCommand 0x24#8 {} 6).todo = [.cmd 0x24#8 {}, .busyWait] ∧ ({} : Args).source = .image
      ∧ (atCommand 0x24#8 {} 6).frameIdx = 5 + 1 := by decide

theorem ready_quiet : Quiet ready := ⟨rfl, rfl, rfl, rfl, by decide⟩

theorem witness_OperationSendsItsTrace :
    Inv ready ∧ Quiet ready ∧ hostOpOf 0x8#4 = some .displayPartial ∧ CanStart .displayPartial ready ∧ ready.imgLen ≠ 0#32 :=
  ⟨ready_inv, ready_quiet, rfl, ⟨rfl, by decide, by decide⟩, by decide⟩

theorem witness_ResetAndInitTraces : ready.cfg.valid = true := by decide

theorem witness_ArgumentOperationTraces : { ready with lTable := .part }.cfg.valid = true := by decide

theorem witness_FullRedrawTraces : ready.cfg.valid = true := by decide

/-- Both orders of both groups. -/
theorem witness_DisplayPartialTrace :
    small.valid = true ∧ { small with partialPulseBeforeLut := true, partialOptBeforeBorder := true }.valid = true := by decide

theorem witness_OperationSizes :
    { ready with cfg := { small with deepSleepData := none } }.cfg.valid = true := by decide

theorem witness_BusyWaitSamplesAgain :
    pollDelay.cfg.valid = true ∧ pollDelay.active = true ∧ Undisturbed pollDelay ∧ pollDelay.todo = [.busyWait]
      ∧ pollDelay.delayOn = true ∧ Undisturbed (waitingAt true 1 (some 3)) ∧ (waitingAt true 1 (some 3)).delayOn = false
      ∧ (waitingAt true 1 (some 3)).takeInput.busySync = true ∧ 1 + 1 < 3 :=
  ⟨by decide, rfl, ⟨rfl, by decide⟩, rfl, rfl, ⟨rfl, by decide⟩, rfl, rfl, by decide⟩

/-- One clock of a poll delay at its end: the event, and the same action. -/
theorem test_poll_delay_ends :
    (nextOf (sequencerAction { waitingAt true 1 none with delayOn := true, delayCnt := 0 })).map
        (fun t => (t.log, t.todo, t.delayOn))
      = some ([.delay small.busyPollMs], [.busyWait], false) := by decide

/-- INIT at the busy-wait that ends its reset_seq. -/
def initAtSoftReset : State :=
  { ready with
    active := true, opCur := some 0x2#4, lOp := 0x2#4, life := .hardwareReset, stepNo := 7, sync := [false, false],
    todo := .busyWait :: configureProc small ++ setLutProc .full ++ [.setState .lutLoaded] }

theorem initAtSoftReset_inv : Inv initAtSoftReset :=
  ⟨by decide, by decide, rfl, ⟨rfl, rfl, rfl, rfl⟩, fun h => Bool.noConfusion h,
    fun _ => ⟨rfl, rfl, rfl, by decide, by decide, rfl⟩⟩

/-- The clock that ends INIT's reset_seq, a clock that goes on, a normal end and an abort. -/
theorem witness_StateWhileRunning :
    (∃ t, Inv initAtSoftReset ∧ initAtSoftReset.nextInput.rstN = true ∧ hostOpOf initAtSoftReset.lOp = some .init
        ∧ step initAtSoftReset = .next t ∧ t.active = true ∧ t.stepNo = 8)
      ∧ (∃ t, Inv lastLutFrame ∧ step lastLutFrame = .next t ∧ t.active = false ∧ t.result = .ok)
      ∧ (∃ t, step { lastLutFrame with txErrI := true } = .next t ∧ t.active = false ∧ t.result ≠ .ok) :=
  ⟨⟨_, initAtSoftReset_inv, rfl, rfl, rfl, rfl, rfl⟩, ⟨_, lastLutFrame_inv, rfl, rfl, rfl⟩, ⟨_, rfl, rfl, by decide⟩⟩

end Sys2Proof.Tests
end

section
/-! PROOFS. The scope of the model (R5, R6, R10, R70, R71, R102, R170, R190): which parameters a step refuses, that no step
changes a parameter or, but by the host's own writes, the image memory, and that a step sends no line event outside the
alphabet. -/

namespace Sys2Proof

/-! ### The bounds of the parameters (R6, R190) -/

theorem optCommandOk_iff (b : Byte) : optCommandOk b = true ↔ b ∉ fixedCommandBytes := by
  simp [optCommandOk]

theorem Params.valid_iff (p : Params) :
    p.valid = true ↔
      p.width % 8 = 0 ∧ 8 ≤ p.width ∧ p.width ≤ 2048 ∧ 1 ≤ p.height ∧ p.height ≤ 65535 ∧ p.busyTimeoutPolls ≠ some 0
        ∧ p.partialOptCmd ∉ fixedCommandBytes := by
  simp only [Params.valid, Bool.and_eq_true, beq_iff_eq, bne_iff_ne, decide_eq_true_eq, optCommandOk_iff, and_assoc]

theorem Params.imgBytes_mul_eight (p : Params) (h : p.width % 8 = 0) : p.imgBytes * 8 = p.height * p.width := by
  rw [Params.imgBytes, Nat.mul_assoc, Nat.div_mul_cancel (Nat.dvd_of_mod_eq_zero h)]

end Sys2Proof

namespace Sys2Proof.Machine

theorem step_invalid (s : State) (h : ¬ s.cfg.valid = true) : step s = .refused .invalidInstance := by
  simp [step, clock, h]

/-- Settles O10: parameters outside the bounds do not meet `Params.valid`, which a clock checks before all else. -/
theorem instanceOutsideBoundsRefused : Obligations.InstanceOutsideBoundsRefused := by
  intro s
  refine ⟨fun hout => step_invalid s fun hvalid => ?_, s.cfg.imgBytes_mul_eight⟩
  obtain ⟨hmod, hlo, hhi, hpos, hmax, -, hopt⟩ := (Params.valid_iff s.cfg).mp hvalid
  rcases hout with h | h | h | h | h | h
  · exact h hmod
  · omega
  · omega
  · omega
  · omega
  · exact hopt h

/-! ### The phases of a clock -/

/-- A register write changes registers of the block only: nothing outside it, no event, no image read and no line. -/
theorem writeReg_outside (off : Nat) (v : Word) (s : State) :
    sameOutside s (writeReg off v s) ∧ sameTrace s (writeReg off v s) := by
  unfold writeReg
  split <;> exact ⟨⟨rfl, rfl, fun _ => rfl, rfl, rfl, rfl, rfl, rfl, rfl⟩, rfl, rfl, rfl⟩

theorem sameOutside_setRdata {s t : State} (h : sameOutside s t) : sameOutside { s with rdata := t.rdata } t := by
  obtain ⟨hcfg, hmem, hread, hin, hrst, hbusy, htx, hsync, -⟩ := h
  exact ⟨hcfg, hmem, hread, hin, hrst, hbusy, htx, hsync, rfl⟩

/-- The host's access changes nothing outside the block but what a read returns; it sends nothing and moves no line. -/
theorem hostPhase_outside {access : Option Access} {s t : State} (h : hostPhase access s = .next t) :
    sameOutside { s with rdata := t.rdata } t ∧ sameTrace s t := by
  cases access with
  | none =>
    cases h
    exact ⟨(Kept.refl s).2.2.1, rfl, rfl, rfl⟩
  | some a =>
    replace h : hostAccess a s = .next t := h
    rcases hostAccess_cases a s with ⟨-, e⟩ | ⟨-, -, e⟩ | ⟨-, -, -, e⟩ | ⟨-, -, -, e⟩ <;> rw [e] at h
    · cases h
    · cases h
      exact ⟨(Kept.refl _).2.2.1, rfl, rfl, rfl⟩
    · cases h
      obtain ⟨hout, htrace⟩ := writeReg_outside (a.offset s.cfg) a.data s
      exact ⟨sameOutside_setRdata hout, htrace⟩
    · cases h
      obtain ⟨-, hout, htrace⟩ := acceptCommand_sends_nothing (opField a.data) (planOf (opField a.data)) s
      exact ⟨sameOutside_setRdata hout, htrace⟩

theorem sequencerPhase_cases {running stall : Bool} {s t : State} (h : sequencerPhase running stall s = .next t) :
    sequencerAction s = .next t ∨ t = s := by
  unfold sequencerPhase at h
  split at h
  · exact .inl h
  · cases h
    exact .inr rfl

theorem sequencerPhase_kept {running stall : Bool} {s t : State} (h : sequencerPhase running stall s = .next t) :
    Kept s t := by
  rcases sequencerPhase_cases h with h | rfl
  · exact sequencerAction_kept s t h
  · exact Kept.refl t

/-- Settles O40: of the phases of a clock, only taking the inputs writes image memory, and it does the host's writes; block
reset keeps both. -/
theorem onlyHostWritesImageMemory : Obligations.OnlyHostWritesImageMemory := by
  intro s t h
  obtain ⟨-, ⟨-, rfl⟩ | ⟨-, u, v, hu, hv, rfl⟩⟩ := step_cases s t h
  · exact ⟨rfl, rfl⟩
  · obtain ⟨⟨hcfg, hmem, -⟩, -⟩ := hostPhase_outside hu
    have kept := sequencerPhase_kept hv
    exact ⟨kept.cfg.trans hcfg, kept.mem.trans hmem⟩

/-! ### The alphabet of the trace (R10, R102, R170) -/

/-- `t`'s trace is that of `s`, or one event longer, an event the block may produce. -/
def AddsAllowedEvent (s t : State) : Prop :=
  t.log = s.log ∨ ∃ e, eventAllowed s.cfg e = true ∧ t.log = e :: s.log

@[simp] theorem finishAction_log (s : State) : (finishAction s).log = s.log := (finishAction_trace s).1.1

theorem rstAction_log (v : Bool) (s : State) : (rstAction v s).log = .rst v :: s.log := finishAction_log _

theorem delayTick_adds (ms : Nat) (atEnd : State → State) (s : State) (hend : ∀ u, (atEnd u).log = u.log) :
    AddsAllowedEvent s (delayTick ms atEnd s) := by
  rcases delayTick_cases ms atEnd s with ⟨-, h⟩ | ⟨-, -, h⟩ | ⟨-, -, h⟩ <;> rw [h]
  · exact .inl rfl
  · exact .inr ⟨.delay ms, rfl, hend _⟩
  · exact .inl rfl

theorem busyWaitAction_adds (s : State) : AddsAllowedEvent s (busyWaitAction s) := by
  rcases busyWaitAction_cases s with ⟨-, h⟩ | ⟨-, -, h⟩ | ⟨-, -, -, h⟩ | ⟨-, -, -, h⟩ <;> rw [h]
  · exact delayTick_adds _ id s fun _ => rfl
  · exact .inr ⟨.poll false, rfl, finishAction_log _⟩
  · exact .inr ⟨.poll true, rfl, rfl⟩
  · exact .inr ⟨.poll true, rfl, rfl⟩

/-- A byte that decodes as a panel command may be the one byte of a CMD frame. -/
theorem cmdFrame_allowed {p : Params} {b : Byte} {i : Instr} (h : decode p.partialOptCmd (.commandByte b) = .ok i) :
    eventAllowed p (.frame .cmd [b]) = true := by
  simp only [eventAllowed, Bool.or_eq_true, List.contains_iff_mem, beq_iff_eq]
  cases hb : commandOf b with
  | some j => exact .inl (commandOf_some b (by rw [hb]; rfl))
  | none =>
    by_cases hopt : b = p.partialOptCmd
    · exact .inr hopt
    · simp [decode, hb, hopt] at h

/-- Only 0x32 sends a bulk frame, of the 153 bytes of R98. -/
theorem dataOf_ne_bulk_nil (p : Params) (a : Args) (i : Instr) : dataOf p a i ≠ .bulk [] := by
  intro h
  cases i with
  | writeLut =>
    injection h with h
    have hlen := congrArg List.length h
    simp at hlen
  | writeRamBw | writeRamRed =>
    cases hs : a.source <;> simp [dataOf, ramData, hs] at h
  | _ => cases h

theorem dataFrame_ne_nil (d : FrameData) (k : Nat) (s : State) (h : d ≠ .bulk []) : (dataFrame d k s).1 ≠ [] := by
  cases d with
  | bulk bs => simpa [dataFrame] using h
  | _ => exact List.cons_ne_nil _ _

theorem dataFrame_log (d : FrameData) (k : Nat) (s : State) : (dataFrame d k s).2.log = s.log := by
  rcases dataFrame_state d k s with h | ⟨a, h⟩ <;> simp [h]

theorem sendCommand_adds {b : Byte} {d : FrameData} {s t : State} (hcmd : eventAllowed s.cfg (.frame .cmd [b]) = true)
    (hdata : d ≠ .bulk []) (h : sendCommand b d s = .next t) : AddsAllowedEvent s t := by
  rcases sendCommand_cases b d s with ⟨-, e⟩ | ⟨-, -, e⟩ | ⟨-, e⟩ <;> rw [e] at h
  · cases h
    exact .inr ⟨_, hcmd, (afterFrame_log _ _).1⟩
  · cases h
    refine .inr ⟨.frame .data (dataFrame d (s.frameIdx - 1) s).1, ?_, ?_⟩
    · simpa [eventAllowed] using dataFrame_ne_nil d _ s hdata
    · rw [(afterFrame_log _ _).1, emitFrame_log, dataFrame_log]
  · cases h

/-- One clock of the running operation sends at most one event, and one of the alphabet. -/
theorem sequencerAction_adds {s t : State} (h : sequencerAction s = .next t) : AddsAllowedEvent s t := by
  rcases sequencerAction_cases s with ⟨v, r, -, e⟩ | ⟨ms, r, -, e⟩ | ⟨r, -, e⟩ | ⟨b, a, r, i, -, hi, e, e'⟩
    | ⟨b, a, r, x, -, -, e⟩ | ⟨-, e⟩ <;> rw [e] at h
  · cases h
    exact .inr ⟨.rst v, rfl, rstAction_log v s⟩
  · cases h
    exact delayTick_adds ms finishAction s finishAction_log
  · cases h
    exact busyWaitAction_adds s
  · rw [e'] at h
    exact sendCommand_adds (cmdFrame_allowed hi) (dataOf_ne_bulk_nil _ a i) h
  · cases h
  · cases h

/-- A clock with rst_n = 1 adds at most one event to the trace, one of the alphabet (R125). -/
theorem step_adds {s t : State} (hr : s.nextInput.rstN = true) (h : step s = .next t) : AddsAllowedEvent s t := by
  obtain ⟨-, ⟨hr', -⟩ | ⟨-, u, v, hu, hv, rfl⟩⟩ := step_cases s t h
  · simp [hr] at hr'
  · obtain ⟨⟨hcfg, -⟩, hlog, -⟩ := hostPhase_outside hu
    have hadds : AddsAllowedEvent u v := by
      rcases sequencerPhase_cases hv with hv | rfl
      · exact sequencerAction_adds hv
      · exact .inl rfl
    unfold AddsAllowedEvent at hadds
    rwa [hcfg, hlog] at hadds

/-- Settles O49: block reset ends the trace, and any other clock adds at most one event of the alphabet. `Inv` is not needed: the
sequencer decodes a command byte before it sends it, and refuses one outside the table. -/
theorem traceStaysInAlphabet : Obligations.TraceStaysInAlphabet := by
  intro s t _ hlog h e he
  obtain ⟨hcfg, -⟩ := onlyHostWritesImageMemory s t h
  rw [hcfg]
  cases hr : s.nextInput.rstN with
  | false =>
    obtain ⟨-, ⟨-, rfl⟩ | ⟨hr', -⟩⟩ := step_cases s t h
    · cases he
    · simp [hr] at hr'
  | true =>
    rcases step_adds hr h with hsame | ⟨e', hok, hcons⟩
    · exact hlog e (hsame ▸ he)
    · rw [hcons, List.mem_cons] at he
      rcases he with rfl | he
      · exact hok
      · exact hlog e he

end Sys2Proof.Machine
end

section
/-! PROOFS. The phases of a clock: what the host's access leaves of a running operation, and the four ways in which the sequencer
can act. -/

namespace Sys2Proof.Machine

/-! ### What the host's access leaves alone -/

/-- The sequencer's position and counters (R46, R49), and the fields of STATUS but DONE and DROPPED. -/
def sameSequencer (s t : State) : Prop :=
  t.active = s.active ∧ t.opCur = s.opCur ∧ t.stepNo = s.stepNo ∧ t.todo = s.todo ∧ t.frameIdx = s.frameIdx
    ∧ t.waiting = s.waiting ∧ t.delayOn = s.delayOn ∧ t.delayCnt = s.delayCnt ∧ t.polls = s.polls ∧ t.life = s.life
    ∧ t.lutMode = s.lutMode ∧ t.result = s.result

theorem sameSequencer.refl (s : State) : sameSequencer s s := ⟨rfl, rfl, rfl, rfl, rfl, rfl, rfl, rfl, rfl, rfl, rfl, rfl⟩

theorem sameLatches.refl (s : State) : sameLatches s s := (Kept.refl s).2.1

theorem sameLatches.trans {s t u : State} (h : sameLatches s t) (h' : sameLatches t u) : sameLatches s u := by
  simp_all [sameLatches]

/-- A write to another register than STATUS changes argument registers and IRQ_EN only. -/
theorem writeReg_arguments (off : Nat) (v : Word) (s : State) (h : off ≠ 0x04) :
    writeReg off v s = { s with
      winX := (writeReg off v s).winX, winY := (writeReg off v s).winY, cursor := (writeReg off v s).cursor,
      colour := (writeReg off v s).colour, lutSel := (writeReg off v s).lutSel, imgBase := (writeReg off v s).imgBase,
      imgLen := (writeReg off v s).imgLen, doneIe := (writeReg off v s).doneIe } := by
  unfold writeReg
  split
  case h_1 => exact absurd rfl h
  all_goals rfl

/-- A register write leaves the sequencer and the latched copies. -/
theorem writeReg_sequencer (off : Nat) (v : Word) (s : State) :
    sameSequencer s (writeReg off v s) ∧ sameLatches s (writeReg off v s) := by
  by_cases h : off = 0x04
  · subst h
    exact ⟨sameSequencer.refl s, sameLatches.refl s⟩
  · rw [writeReg_arguments off v s h]
    exact ⟨sameSequencer.refl s, sameLatches.refl s⟩

/-- What the host's part of a clock can do. -/
theorem hostPhase_cases {access : Option Access} {s t : State} (h : hostPhase access s = .next t) :
    (access = none ∧ t = s)
      ∨ (∃ a, access = some a ∧ a.write = false ∧ t = { s with rdata := readReg (a.offset s.cfg) s })
      ∨ (∃ a, access = some a ∧ a.write = true ∧ a.offset s.cfg ≠ 0 ∧ t = writeReg (a.offset s.cfg) a.data s)
      ∨ (∃ a, access = some a ∧ a.write = true ∧ a.offset s.cfg = 0
        ∧ t = acceptCommand (opField a.data) (planOf (opField a.data)) s) := by
  cases access with
  | none =>
    cases h
    exact .inl ⟨rfl, rfl⟩
  | some a =>
    replace h : hostAccess a s = .next t := h
    rcases hostAccess_cases a s with ⟨-, e⟩ | ⟨-, hw, e⟩ | ⟨-, hw, ho, e⟩ | ⟨-, hw, ho, e⟩ <;> rw [e] at h <;> cases h
    · exact .inr (.inl ⟨a, rfl, hw, rfl⟩)
    · exact .inr (.inr (.inl ⟨a, rfl, hw, ho, rfl⟩))
    · exact .inr (.inr (.inr ⟨a, rfl, hw, ho, rfl⟩))

theorem acceptCommand_active (op : BitVec 4) (plan : State → List Item) (s : State) (h : s.active = true) :
    acceptCommand op plan s = { s with dropped := true } := by
  simp [acceptCommand, h]

/-- The host's access leaves the sequencer and the latched copies, unless it is a CMD write with ACTIVE = 0. -/
theorem hostPhase_sequencer {access : Option Access} {s t : State} (h : hostPhase access s = .next t) :
    (sameSequencer s t ∧ sameLatches s t)
      ∨ (s.active = false ∧ ∃ a, access = some a ∧ a.write = true ∧ a.offset s.cfg = 0
        ∧ t = acceptCommand (opField a.data) (planOf (opField a.data)) s) := by
  rcases hostPhase_cases h with ⟨-, rfl⟩ | ⟨a, -, -, rfl⟩ | ⟨a, -, -, -, rfl⟩ | ⟨a, ha, hw, ho, rfl⟩
  · exact .inl ⟨sameSequencer.refl t, sameLatches.refl t⟩
  · exact .inl ⟨sameSequencer.refl s, sameLatches.refl s⟩
  · exact .inl (writeReg_sequencer _ _ s)
  · cases hs : s.active with
    | false => exact .inr ⟨rfl, a, ha, hw, ho, rfl⟩
    | true =>
      rw [acceptCommand_active _ _ s hs]
      exact .inl ⟨sameSequencer.refl s, sameLatches.refl s⟩

/-- While an operation runs, whatever the host does. -/
theorem hostPhase_running {access : Option Access} {s t : State} (ha : s.active = true)
    (h : hostPhase access s = .next t) : sameSequencer s t ∧ sameLatches s t := by
  rcases hostPhase_sequencer h with hsame | ⟨hidle, -⟩
  · exact hsame
  · simp [ha] at hidle

/-! ### The sequencer's action -/

/-- The same place of the running operation, the same STATE, LUT_MODE, RESULT and DONE, and all that `Kept` says. -/
def samePoint (s t : State) : Prop :=
  Kept s t ∧ t.active = s.active ∧ t.opCur = s.opCur ∧ t.stepNo = s.stepNo ∧ t.todo = s.todo ∧ t.frameIdx = s.frameIdx
    ∧ t.life = s.life ∧ t.lutMode = s.lutMode ∧ t.result = s.result ∧ t.done = s.done

theorem samePoint.refl (s : State) : samePoint s s := ⟨Kept.refl s, rfl, rfl, rfl, rfl, rfl, rfl, rfl, rfl, rfl⟩

theorem samePoint.trans {s t u : State} (h : samePoint s t) (h' : samePoint t u) : samePoint s u := by
  obtain ⟨hkept, hact, hop, hstep, htodo, hidx, hlife, hmode, hresult, hdone⟩ := h
  obtain ⟨hkept', hact', hop', hstep', htodo', hidx', hlife', hmode', hresult', hdone'⟩ := h'
  exact ⟨hkept.trans hkept', hact'.trans hact, hop'.trans hop, hstep'.trans hstep, htodo'.trans htodo, hidx'.trans hidx,
    hlife'.trans hlife, hmode'.trans hmode, hresult'.trans hresult, hdone'.trans hdone⟩

/-- The levels between frames (R129), and img_req low (log entry 29). -/
def LinesIdle (l : Lines) : Prop := l.csO = true ∧ l.sclkO = false ∧ l.mosiO = false ∧ l.imgReq = false

/-- One frame of the current command is sent and another is due. -/
def nextFrame (s : State) : State := { s with frameIdx := s.frameIdx + 1, stepNo := s.stepNo + 1 }

/-- The four ways in which the sequencer acts. `t` goes on from a state `w` that has what `s` has, but for the trace, the lines
and the timers. -/
inductive Acted (s : State) : State → Prop where
  /-- The action in progress goes on: the timer counts, or a busy sample was not the last. -/
  | stays (t : State) (hpoint : samePoint s t) (hlines : LinesIdle s.lines → LinesIdle t.lines)
      (hpos : positionOk s = true → positionOk t = true) : Acted s t
  /-- A frame was sent that is not the last of its command. -/
  | frame (w : State) (b : Byte) (a : Args) (r : List Item) (hw : samePoint s w)
      (hlines : LinesIdle s.lines → LinesIdle w.lines) (hcmd : s.todo = .cmd b a :: r)
      (htimers : w.waiting = s.waiting ∧ w.delayOn = s.delayOn)
      (hidx : s.frameIdx < (commandData s.cfg b a).count s.cfg) : Acted s (nextFrame w)
  /-- The action is complete. -/
  | finishes (w : State) (i : Item) (r : List Item) (hw : samePoint s w) (hlines : LinesIdle s.lines → LinesIdle w.lines)
      (htodo : s.todo = i :: r) (haction : i.isAction = true)
      (hidx : positionOk s = true → s.frameIdx + 1 = i.actions s.cfg) : Acted s (finishAction w)
  /-- The operation aborts (R268). -/
  | aborts (w : State) (e : ResultCode) (hw : samePoint s w) (hlines : LinesIdle s.lines → LinesIdle w.lines)
      (hcode : e = .transportError ∨ (e = .hardwareTimeout ∧ s.cfg.busyTimeoutPolls ≠ none)) : Acted s (abort e w)

theorem timedOut_none {p : Params} {n : Nat} (h : timedOut p n = true) : p.busyTimeoutPolls ≠ none := by
  intro hn
  simp [timedOut, hn] at h

theorem positionOk_frameIdx {s : State} {i : Item} {r : List Item} (ht : s.todo = i :: r) (hp : positionOk s = true)
    (hi : ∀ b a, i ≠ .cmd b a) : s.frameIdx = 0 := by
  cases i <;> simp_all [positionOk]

theorem rstAction_acted (v : Bool) (s : State) (r : List Item) (ht : s.todo = .rst v :: r) :
    Acted s (rstAction v s) :=
  .finishes (emit (.rst v) { s with lines := { s.lines with rstO := v } }) (.rst v) r (samePoint.refl s) id ht rfl
    fun hp => by rw [positionOk_frameIdx ht hp (by simp)]; rfl

theorem delayAction_acted (ms : Nat) (s : State) (r : List Item) (ht : s.todo = .delay ms :: r) :
    Acted s (delayAction ms s) := by
  rcases delayTick_cases ms finishAction s with ⟨-, h⟩ | ⟨-, -, h⟩ | ⟨-, -, h⟩ <;> rw [delayAction, h]
  · exact .stays _ (samePoint.refl s) id fun hp => by simpa [positionOk, ht] using hp
  · exact .finishes _ (.delay ms) r (samePoint.refl s) id ht rfl
      fun hp => by rw [positionOk_frameIdx ht hp (by simp)]; rfl
  · exact .stays _ (samePoint.refl s) id fun hp => by simpa [positionOk, ht] using hp

theorem busyWaitAction_acted (s : State) (r : List Item) (ht : s.todo = .busyWait :: r) : Acted s (busyWaitAction s) := by
  have zero (hp : positionOk s = true) : s.frameIdx = 0 := positionOk_frameIdx ht hp (by simp)
  rcases busyWaitAction_cases s with ⟨hd, h⟩ | ⟨-, -, h⟩ | ⟨-, -, hto, h⟩ | ⟨-, -, -, h⟩ <;> rw [h]
  · rcases delayTick_cases s.cfg.busyPollMs id s with ⟨hd', h⟩ | ⟨-, -, h⟩ | ⟨-, -, h⟩ <;> rw [h]
    · simp [hd] at hd'
    · exact .stays _ (samePoint.refl s) id fun hp => by simp_all [positionOk]
    · exact .stays _ (samePoint.refl s) id fun hp => by simpa [positionOk, ht] using hp
  · exact .finishes _ .busyWait r (samePoint.refl s) id ht rfl fun hp => by rw [zero hp]; rfl
  · exact .aborts _ _ (samePoint.refl s) id (.inr ⟨rfl, timedOut_none hto⟩)
  · exact .stays _ (samePoint.refl s) id fun hp => by simp [positionOk, ht, zero hp]

theorem afterFrameLines_idle (k : FrameKind) (l : Lines) (h : LinesIdle l) : LinesIdle (afterFrameLines k l) := by
  obtain ⟨-, -, -, himg⟩ := h
  exact ⟨rfl, rfl, rfl, himg⟩

theorem afterFrame_acted {s w : State} {b : Byte} {a : Args} {r : List Item} (ht : s.todo = .cmd b a :: r)
    (hw : samePoint s w) (hlines : LinesIdle s.lines → LinesIdle w.lines)
    (hwait : w.waiting = s.waiting ∧ w.delayOn = s.delayOn) :
    Acted s (afterFrame ((commandData s.cfg b a).count s.cfg) w) := by
  have hidx : w.frameIdx = s.frameIdx := by
    obtain ⟨-, -, -, -, -, h, -⟩ := hw
    exact h
  rcases afterFrame_cases ((commandData s.cfg b a).count s.cfg) w with ⟨-, h⟩ | ⟨-, hlt, h⟩ | ⟨-, hge, h⟩ <;> rw [h]
  · exact .aborts w _ hw hlines (.inl rfl)
  · exact .frame w b a r hw hlines ht hwait (hidx ▸ hlt)
  · refine .finishes w (.cmd b a) r hw hlines ht rfl fun hp => ?_
    simp only [positionOk, ht, Bool.and_eq_true, decide_eq_true_eq] at hp
    simp only [Item.actions]
    omega

theorem commandData_of_decode {p : Params} {b : Byte} {i : Instr} (a : Args)
    (h : decode p.partialOptCmd (.commandByte b) = .ok i) : commandData p b a = dataOf p a i := by
  simp only [commandData, h]

theorem emitFrame_samePoint (k : FrameKind) (bs : List Byte) (s : State) : samePoint s (emitFrame k bs s) :=
  ⟨emitFrame_kept k bs s, rfl, rfl, rfl, rfl, rfl, rfl, rfl, rfl, rfl⟩

theorem imageRead_samePoint (addr : Word) (s : State) : samePoint s (imageRead addr s).2 :=
  ⟨imageRead_kept addr s, rfl, rfl, rfl, rfl, rfl, rfl, rfl, rfl, rfl⟩

theorem sendCommand_acted {s t : State} {b : Byte} {a : Args} {r : List Item} (ht : s.todo = .cmd b a :: r)
    (h : sendCommand b (commandData s.cfg b a) s = .next t) : Acted s t := by
  rcases sendCommand_cases b (commandData s.cfg b a) s with ⟨-, e⟩ | ⟨-, -, e⟩ | ⟨-, e⟩ <;> rw [e] at h <;> cases h
  · exact afterFrame_acted ht (emitFrame_samePoint _ _ s) (afterFrameLines_idle _ _) ⟨rfl, rfl⟩
  · generalize (dataFrame (commandData s.cfg b a) (s.frameIdx - 1) s).1 = bs
    rcases dataFrame_state (commandData s.cfg b a) (s.frameIdx - 1) s with e | ⟨addr, e⟩ <;> rw [e]
    · exact afterFrame_acted ht (emitFrame_samePoint _ bs s) (afterFrameLines_idle _ _) ⟨rfl, rfl⟩
    · exact afterFrame_acted ht ((imageRead_samePoint addr s).trans (emitFrame_samePoint _ bs _))
        (fun _ => ⟨rfl, rfl, rfl, rfl⟩) ⟨rfl, rfl⟩

/-- What the sequencer's action does, whatever the action is. -/
theorem sequencerAction_acted {s t : State} (h : sequencerAction s = .next t) : Acted s t := by
  rcases sequencerAction_cases s with ⟨v, r, ht, e⟩ | ⟨ms, r, ht, e⟩ | ⟨r, ht, e⟩ | ⟨b, a, r, i, ht, hi, e, e'⟩
    | ⟨b, a, r, x, -, -, e⟩ | ⟨-, e⟩ <;> rw [e] at h
  · cases h
    exact rstAction_acted v s r ht
  · cases h
    exact delayAction_acted ms s r ht
  · cases h
    exact busyWaitAction_acted s r ht
  · rw [e', ← commandData_of_decode a hi] at h
    exact sendCommand_acted ht h
  · cases h
  · cases h

end Sys2Proof.Machine
end

section
/-! PROOFS. The action lists of the ten operations: what they are functions of, how long they are, and the STATE that R201 gives
along them. -/

namespace Sys2Proof.Machine

/-! ### What an action list depends on -/

@[simp] theorem planOf_reset (s : State) : planOf 0x1#4 s = resetPlan s := rfl
@[simp] theorem planOf_init (s : State) : planOf 0x2#4 s = initPlan s := rfl
@[simp] theorem planOf_setWindow (s : State) : planOf 0x3#4 s = setWindowPlan s := rfl
@[simp] theorem planOf_setCursor (s : State) : planOf 0x4#4 s = setCursorPlan s := rfl
@[simp] theorem planOf_setLut (s : State) : planOf 0x5#4 s = setLutPlan s := rfl
@[simp] theorem planOf_display (s : State) : planOf 0x6#4 s = displayPlan s := rfl
@[simp] theorem planOf_displayBase (s : State) : planOf 0x7#4 s = displayBasePlan s := rfl
@[simp] theorem planOf_displayPartial (s : State) : planOf 0x8#4 s = displayPartialPlan s := rfl
@[simp] theorem planOf_clear (s : State) : planOf 0x9#4 s = clearPlan s := rfl
@[simp] theorem planOf_sleep (s : State) : planOf 0xA#4 s = sleepPlan s := rfl

/-- An action list is a function of the parameters and the latched copies (R46, R83). -/
theorem planOf_congr {s t : State} (op : BitVec 4) (hcfg : t.cfg = s.cfg) (hl : sameLatches s t) :
    planOf op t = planOf op s := by
  obtain ⟨-, hwx, hwy, hcur, hcol, htab, -, -⟩ := hl
  unfold planOf
  split <;> simp only [resetPlan, initPlan, setWindowPlan, setCursorPlan, setLutPlan, displayPlan, displayBasePlan,
    displayPartialPlan, clearPlan, sleepPlan, hcfg, hwx, hwy, hcur, hcol, htab]

/-- To show something of each operation, show it of the ten codes. -/
theorem legalOp_cases {motive : (op : BitVec 4) → legalOp op = true → Prop} (reset : motive 0x1#4 rfl)
    (init : motive 0x2#4 rfl) (setWindow : motive 0x3#4 rfl) (setCursor : motive 0x4#4 rfl) (setLut : motive 0x5#4 rfl)
    (display : motive 0x6#4 rfl) (displayBase : motive 0x7#4 rfl) (displayPartial : motive 0x8#4 rfl)
    (clear : motive 0x9#4 rfl) (sleep : motive 0xA#4 rfl) (op : BitVec 4) (hop : legalOp op = true) : motive op hop := by
  have h := hostOpOf_some op hop
  simp only [List.mem_cons, List.not_mem_nil, or_false] at h
  rcases h with rfl | rfl | rfl | rfl | rfl | rfl | rfl | rfl | rfl | rfl <;> assumption

/-! ### The number of actions -/

@[simp] theorem actionCount_nil (p : Params) : actionCount p [] = 0 := rfl

@[simp] theorem actionCount_cons (p : Params) (i : Item) (l : List Item) :
    actionCount p (i :: l) = i.actions p + actionCount p l := by
  simp [actionCount]

@[simp] theorem actionCount_append (p : Params) (l l' : List Item) :
    actionCount p (l ++ l') = actionCount p l + actionCount p l' := by
  simp [actionCount]

@[simp] theorem actions_rst (p : Params) (v : Bool) : (Item.rst v).actions p = 1 := rfl
@[simp] theorem actions_delay (p : Params) (ms : Nat) : (Item.delay ms).actions p = 1 := rfl
@[simp] theorem actions_busyWait (p : Params) : Item.busyWait.actions p = 1 := rfl
@[simp] theorem actions_setState (p : Params) (x : LifeState) : (Item.setState x).actions p = 0 := rfl
@[simp] theorem actions_setLutMode (p : Params) (t : Lut) : (Item.setLutMode t).actions p = 0 := rfl
@[simp] theorem actions_cmd (p : Params) (b : Byte) (a : Args) :
    (Item.cmd b a).actions p = 1 + (commandData p b a).count p := rfl

theorem decode_partialOptCmd {p : Params} (hp : p.valid = true) :
    decode p.partialOptCmd (.commandByte p.partialOptCmd) = .ok .partialOpt := by
  obtain ⟨-, -, -, -, -, -, hopt⟩ := (Params.valid_iff p).mp hp
  have hnone : commandOf p.partialOptCmd = none := by
    by_contra h
    exact hopt (commandOf_some _ (Option.isSome_iff_ne_none.mpr h))
  simp [decode, hnone]

theorem partialOpt_count {p : Params} (hp : p.valid = true) (a : Args) :
    (commandData p p.partialOptCmd a).count p = 10 := by
  rw [commandData_of_decode a (decode_partialOptCmd hp)]
  simp [dataOf, FrameData.count]

theorem initPlan_count (s : State) : actionCount s.cfg (initPlan s) = 44 := by
  simp [initPlan, resetSeq, hwResetPulse, configureProc, fullWindowProc, setWindowProc, setCursorProc, setLutProc,
    commandData, decode, commandOf, dataOf, FrameData.count, yBytes]

theorem setLutProc_count (p : Params) (t : Lut) : actionCount p (setLutProc t) = 13 := by
  simp [setLutProc, commandData, decode, commandOf, dataOf, FrameData.count]

theorem displayPartialPlan_count (s : State) (hp : s.cfg.valid = true) :
    actionCount s.cfg (displayPartialPlan s) = s.cfg.imgBytes + 53 := by
  have hload : actionCount s.cfg (partialLoad s.cfg) = 17 := by
    unfold partialLoad
    split <;> simp [shortResetPulse, setLutProc_count]
  have hsetup : actionCount s.cfg (partialSetup s.cfg) = 13 := by
    have hborder (a : Args) : (commandData s.cfg 0x3C#8 a).count s.cfg = 1 := rfl
    unfold partialSetup
    split <;> simp [hborder, partialOpt_count hp]
  simp [displayPartialPlan, hload, hsetup, activateProc, fullWindowProc, setWindowProc, setCursorProc, writeImageProc,
    commandData, decode, commandOf, dataOf, FrameData.count, ramData, yBytes]
  omega

/-- R46: no action list is longer than 3 × IMG_BYTES + 200. -/
theorem planOf_count_le (op : BitVec 4) (s : State) (hop : legalOp op = true) (hp : s.cfg.valid = true) :
    actionCount s.cfg (planOf op s) ≤ 3 * s.cfg.imgBytes + 200 := by
  have hactivate (v : Activation) : actionCount s.cfg (activateProc v) = 4 := rfl
  have himage (bank : Byte) (hb : bank = 0x24#8 ∨ bank = 0x26#8) :
      actionCount s.cfg (writeImageProc bank) = 1 + s.cfg.imgBytes := by
    rcases hb with rfl | rfl <;> rfl
  have hfill (bank c : Byte) (hb : bank = 0x24#8 ∨ bank = 0x26#8) :
      actionCount s.cfg (fillProc bank c) = 1 + s.cfg.imgBytes := by
    rcases hb with rfl | rfl <;> rfl
  induction op, hop using legalOp_cases with
  | reset => exact Nat.le_add_left_of_le (show 8 ≤ 200 by omega)
  | init => exact (initPlan_count s).trans_le (by omega)
  | setWindow => exact Nat.le_add_left_of_le (show 8 ≤ 200 by omega)
  | setCursor => exact Nat.le_add_left_of_le (show 6 ≤ 200 by omega)
  | setLut => simp [setLutPlan, setLutProc_count]
  | display =>
    simp [displayPlan, hactivate, himage]
    omega
  | displayBase =>
    simp [displayBasePlan, hactivate, himage]
    omega
  | displayPartial => exact (displayPartialPlan_count s hp).trans_le (by omega)
  | clear =>
    simp [clearPlan, hactivate, hfill]
    omega
  | sleep =>
    have hdata (a : Args) : (commandData s.cfg 0x10#8 a).count s.cfg ≤ 1 := by
      show s.cfg.deepSleepData.toList.length ≤ 1
      cases s.cfg.deepSleepData <;> simp
    have := hdata {}
    simp [sleepPlan]
    omega

/-! ### STATE along an action list (R201) -/

@[simp] theorem lifeWhile_reset (n : Nat) (x : LifeState) : lifeWhile 0x1#4 n x = (x == .hardwareReset) := rfl
@[simp] theorem lifeWhile_init (n : Nat) (x : LifeState) :
    lifeWhile 0x2#4 n x = (x == if n < 8 then .hardwareReset else .configuring) := rfl
@[simp] theorem lifeWhile_setWindow (n : Nat) (x : LifeState) :
    lifeWhile 0x3#4 n x = (x == .configuring || x == .lutLoaded) := rfl
@[simp] theorem lifeWhile_setCursor (n : Nat) (x : LifeState) :
    lifeWhile 0x4#4 n x = (x == .configuring || x == .lutLoaded) := rfl
@[simp] theorem lifeWhile_setLut (n : Nat) (x : LifeState) :
    lifeWhile 0x5#4 n x = (x == .configuring || x == .lutLoaded) := rfl
@[simp] theorem lifeWhile_display (n : Nat) (x : LifeState) : lifeWhile 0x6#4 n x = (x == .displaying) := rfl
@[simp] theorem lifeWhile_displayBase (n : Nat) (x : LifeState) : lifeWhile 0x7#4 n x = (x == .displaying) := rfl
@[simp] theorem lifeWhile_displayPartial (n : Nat) (x : LifeState) : lifeWhile 0x8#4 n x = (x == .displaying) := rfl
@[simp] theorem lifeWhile_clear (n : Nat) (x : LifeState) : lifeWhile 0x9#4 n x = (x == .displaying) := rfl
@[simp] theorem lifeWhile_sleep (n : Nat) (x : LifeState) :
    lifeWhile 0xA#4 n x = (x == .configuring || x == .lutLoaded || x == .fault) := rfl

/-- STATE changes while an operation runs in INIT only, after 8 actions. -/
theorem lifeWhile_shift (op : BitVec 4) (n m : Nat) (x : LifeState) (hop : legalOp op = true)
    (h : op = 0x2#4 → (n < 8 ↔ m < 8)) : lifeWhile op n x = lifeWhile op m x := by
  induction op, hop using legalOp_cases with
  | init => simp [h rfl]
  | _ => rfl

@[simp] theorem isAction_rst (v : Bool) : (Item.rst v).isAction = true := rfl
@[simp] theorem isAction_delay (ms : Nat) : (Item.delay ms).isAction = true := rfl
@[simp] theorem isAction_busyWait : Item.busyWait.isAction = true := rfl
@[simp] theorem isAction_cmd (b : Byte) (a : Args) : (Item.cmd b a).isAction = true := rfl
@[simp] theorem isAction_setState (x : LifeState) : (Item.setState x).isAction = false := rfl
@[simp] theorem isAction_setLutMode (t : Lut) : (Item.setLutMode t).isAction = false := rfl

/-- With `n` actions complete and STATE `x`, taking up the list leads to an action with a STATE of R201, or ends the operation
in a resting STATE. -/
@[simp] def LifeNext (op : BitVec 4) (n : Nat) : List Item → LifeState → Prop
  | [], x => x ≠ .hardwareReset ∧ x ≠ .displaying
  | .setState y :: r, _ => LifeNext op n r y
  | .setLutMode _ :: r, x => LifeNext op n r x
  | _ :: _, x => lifeWhile op n x = true

/-- No action of the list, which begins with `n` actions complete, is on both sides of the change of STATE inside INIT, and after
each one that ends with a STATE of R201 the list goes on as `LifeNext` says. -/
@[simp] def LifeFollows (p : Params) (op : BitVec 4) : Nat → List Item → Prop
  | _, [] => True
  | n, i :: r =>
    (op = 0x2#4 → n + i.actions p ≤ 8 ∨ 8 ≤ n)
      ∧ (i.isAction = true → ∀ x, lifeWhile op n x = true → LifeNext op (n + i.actions p) r x)
      ∧ LifeFollows p op (n + i.actions p) r

theorem LifeFollows.suffix {p : Params} {op : BitVec 4} {n : Nat} (done l : List Item)
    (h : LifeFollows p op n (done ++ l)) : LifeFollows p op (n + actionCount p done) l := by
  induction done generalizing n with
  | nil => exact h
  | cons i r ih =>
    obtain ⟨-, -, h⟩ := h
    simpa [Nat.add_assoc] using ih h

/-- Each of the ten action lists shows the STATE of R201 at each of its positions. -/
theorem planOf_follows (op : BitVec 4) (s : State) (hop : legalOp op = true) : LifeFollows s.cfg op 0 (planOf op s) := by
  induction op, hop using legalOp_cases with
  | reset =>
    simp [resetPlan, resetSeq, hwResetPulse]
  | init =>
    simp [initPlan, resetSeq, hwResetPulse, configureProc, fullWindowProc, setWindowProc, setCursorProc, setLutProc,
      commandData, decode, commandOf, dataOf, FrameData.count, yBytes]
  | setWindow =>
    simp [setWindowPlan, setWindowProc]
  | setCursor =>
    simp [setCursorPlan, setCursorProc]
  | setLut =>
    simp [setLutPlan, setLutProc]
  | display =>
    simp [displayPlan, writeImageProc, activateProc]
  | displayBase =>
    simp [displayBasePlan, writeImageProc, activateProc]
  | displayPartial =>
    simp only [planOf_displayPartial, displayPartialPlan, partialLoad, partialSetup]
    split <;> split <;>
      simp [shortResetPulse, setLutProc, activateProc, fullWindowProc, setWindowProc, setCursorProc, writeImageProc]
  | clear =>
    simp [clearPlan, fillProc, activateProc]
  | sleep =>
    simp [sleepPlan]

end Sys2Proof.Machine
end

section
/-! PROOFS. The invariant: every phase of a clock keeps it, and `step` stays below the bound of R46. -/

namespace Sys2Proof.Machine

/-- The part of the invariant that is about the sequencer. -/
def SequencerOk (s : State) : Prop := (s.active = false → IdleOk s) ∧ (s.active = true → RunningOk s)

theorem Inv.sequencer {s : State} (h : Inv s) : SequencerOk s := ⟨h.idle, h.running⟩

/-- A step of the machine that leaves the parameters, memory and the synchroniser keeps their parts of the invariant. -/
theorem Inv.of_outside {s t : State} (h : Inv s) (hout : sameOutside { s with rdata := t.rdata } t)
    (hlines : LinesIdle t.lines) (hseq : SequencerOk t) : Inv t := by
  obtain ⟨hcfg, hmem, -, -, -, -, -, hsync, -⟩ := hout
  exact ⟨hcfg ▸ h.cfg_valid, hmem ▸ h.mem_wf, by rw [hsync, hcfg]; exact h.sync_length, hlines, hseq.1, hseq.2⟩

/-! ### The place of a running operation -/

theorem positionOk_inside {s : State} (h : positionOk s = true) :
    ∃ i r, s.todo = i :: r ∧ i.isAction = true ∧ s.frameIdx < i.actions s.cfg := by
  unfold positionOk at h
  split at h
  case h_4 b a r ht =>
    simp only [Bool.and_eq_true, decide_eq_true_eq] at h
    exact ⟨_, r, ht, rfl, by rw [actions_cmd]; omega⟩
  case h_5 => cases h
  all_goals
    simp only [Bool.and_eq_true, beq_iff_eq] at h
    exact ⟨_, _, ‹_›, rfl, by simp [h]⟩

theorem positionOk_cmd {s : State} {b : Byte} {a : Args} {r : List Item} (ht : s.todo = .cmd b a :: r) :
    positionOk s = true
      ↔ s.frameIdx ≤ (commandData s.cfg b a).count s.cfg ∧ s.waiting = false ∧ s.delayOn = false := by
  simp [positionOk, ht, and_assoc]

theorem positionOk_start {s : State} {i : Item} {r : List Item} (ht : s.todo = i :: r) (hi : i.isAction = true)
    (hf : s.frameIdx = 0) (hw : s.waiting = false) (hd : s.delayOn = false) : positionOk s = true := by
  cases i <;> simp_all [positionOk]

/-- A running operation is inside an action that begins with `n` actions complete; no change of STATE falls inside the action, and
after it the action list goes on with a STATE of R201. -/
theorem RunningOk.inside {s : State} (h : RunningOk s) :
    ∃ i r n, s.todo = i :: r ∧ s.frameIdx < i.actions s.cfg ∧ s.stepNo = n + s.frameIdx
      ∧ (s.lOp = 0x2#4 → n + i.actions s.cfg ≤ 8 ∨ 8 ≤ n) ∧ LifeNext s.lOp (n + i.actions s.cfg) r s.life := by
  obtain ⟨-, hlegal, hlife, ⟨done, hdone⟩, hpos, hcount⟩ := h
  obtain ⟨i, r, ht, hi, hlt⟩ := positionOk_inside hpos
  have hfollows := planOf_follows s.lOp s hlegal
  rw [← hdone, ht] at hfollows
  rw [← hdone, actionCount_append] at hcount
  obtain ⟨hside, hnext, -⟩ := hfollows.suffix
  rw [Nat.zero_add] at hside hnext
  have hstep : s.stepNo = actionCount s.cfg done + s.frameIdx := by omega
  refine ⟨i, r, _, ht, hlt, hstep, hside, hnext hi s.life ?_⟩
  rw [← hlife]
  exact lifeWhile_shift _ _ _ _ hlegal fun hop => by have := hside hop; omega

/-- A running operation between two actions, with `l` left of its action list. -/
structure Between (l : List Item) (s : State) : Prop where
  opCur : s.opCur = some s.lOp
  legal : legalOp s.lOp = true
  suffix : l <:+ planOf s.lOp s
  active : s.active = true
  frameIdx : s.frameIdx = 0
  waiting : s.waiting = false
  delayOn : s.delayOn = false
  count : s.stepNo + actionCount s.cfg l = actionCount s.cfg (planOf s.lOp s)
  life : LifeNext s.lOp s.stepNo l s.life

/-- Between two actions with an action next, the operation goes on with it. -/
theorem Between.settle_action {i : Item} {r : List Item} {s : State} (h : Between (i :: r) s) (hi : i.isAction = true)
    (hlife : lifeWhile s.lOp s.stepNo s.life = true) : SequencerOk (settle (i :: r) s) := by
  rw [Machine.settle_action i r s hi]
  exact ⟨fun hidle => absurd (h.active.symm.trans hidle) Bool.noConfusion, fun _ =>
    ⟨h.opCur, h.legal, hlife, h.suffix, positionOk_start rfl hi h.frameIdx h.waiting h.delayOn,
      by rw [h.frameIdx]; exact h.count⟩⟩

/-- Taking up the rest of the action list leads to its next action or to the end of the operation. -/
theorem Between.settle_ok {l : List Item} {s : State} (h : Between l s) : SequencerOk (settle l s) := by
  induction l generalizing s with
  | nil =>
    obtain ⟨hreset, hdisplay⟩ := h.life
    exact ⟨fun _ => ⟨rfl, rfl, rfl, rfl, rfl, rfl, hreset, hdisplay⟩, fun hrun => nomatch hrun⟩
  | cons i r ih =>
    have hrest : r <:+ planOf s.lOp s := (List.suffix_cons i r).trans h.suffix
    have hcount (hi : i.actions s.cfg = 0) : s.stepNo + actionCount s.cfg r = actionCount s.cfg (planOf s.lOp s) := by
      simpa [hi] using h.count
    cases i with
    | setState x =>
      exact ih ⟨h.opCur, h.legal, hrest, h.active, h.frameIdx, h.waiting, h.delayOn, hcount rfl, h.life⟩
    | setLutMode t =>
      exact ih ⟨h.opCur, h.legal, hrest, h.active, h.frameIdx, h.waiting, h.delayOn, hcount rfl, h.life⟩
    | _ => exact h.settle_action rfl h.life

/-! ### The sequencer's action -/

/-- What a running operation has at its place, it has at the same point of another state, but for the timers. -/
theorem RunningOk.at_samePoint {s w : State} (h : RunningOk s) (hw : samePoint s w) :
    w.opCur = some w.lOp ∧ planOf w.lOp w = planOf s.lOp s ∧ w.lOp = s.lOp ∧ w.cfg = s.cfg := by
  obtain ⟨hopCur, -⟩ := h
  obtain ⟨⟨-, hlatch, hout, -⟩, -, hop, -⟩ := hw
  have hlOp : w.lOp = s.lOp := hlatch.1
  exact ⟨by rw [hop, hopCur, hlOp], by rw [hlOp, planOf_congr _ hout.1 hlatch], hlOp, hout.1⟩

theorem RunningOk.of_samePoint {s t : State} (h : RunningOk s) (ht : samePoint s t) (hpos : positionOk t = true) :
    RunningOk t := by
  obtain ⟨hopCur, hplan, hlOp, hcfg⟩ := h.at_samePoint ht
  obtain ⟨-, hlegal, hlife, hsuffix, -, hcount⟩ := h
  obtain ⟨-, -, -, hstep, htodo, hidx, hx, -⟩ := ht
  refine ⟨hopCur, ?_, ?_, ?_, hpos, ?_⟩
  · rwa [hlOp]
  · rwa [hlOp, hstep, hx]
  · rwa [hplan, htodo]
  · rw [hplan, hcfg, hstep, htodo, hidx]
    exact hcount

theorem RunningOk.nextFrame {s w : State} {b : Byte} {a : Args} {r : List Item} (h : RunningOk s) (hw : samePoint s w)
    (hcmd : s.todo = .cmd b a :: r) (htimers : w.waiting = s.waiting ∧ w.delayOn = s.delayOn)
    (hidx : s.frameIdx < (commandData s.cfg b a).count s.cfg) : RunningOk (nextFrame w) := by
  obtain ⟨hopCur, hplan, hlOp, hcfg⟩ := h.at_samePoint hw
  obtain ⟨i, r', n, htodo', -, hn, hside, -⟩ := h.inside
  obtain ⟨rfl, rfl⟩ : Item.cmd b a = i ∧ r = r' := by simpa [hcmd] using htodo'
  obtain ⟨-, hlegal, hlife, hsuffix, hpos, hcount⟩ := h
  obtain ⟨-, -, -, hstep, htodo, hframe, hx, -⟩ := hw
  refine ⟨hopCur, ?_, ?_, ?_, ?_, ?_⟩
  · exact hlOp ▸ hlegal
  · show lifeWhile w.lOp (w.stepNo + 1) w.life = true
    rw [hlOp, hstep, hx, ← hlife]
    refine lifeWhile_shift _ _ _ _ hlegal fun hop => ?_
    have := hside hop
    rw [actions_cmd] at this
    omega
  · show w.todo <:+ planOf w.lOp w
    rwa [hplan, htodo]
  · obtain ⟨-, hwait, hdelay⟩ := (positionOk_cmd hcmd).mp hpos
    refine (positionOk_cmd (s := Machine.nextFrame w) (htodo.trans hcmd)).mpr ⟨?_, htimers.1.trans hwait, htimers.2.trans hdelay⟩
    show w.frameIdx + 1 ≤ (commandData w.cfg b a).count w.cfg
    rwa [hcfg, hframe]
  · show w.stepNo + 1 + actionCount w.cfg w.todo = actionCount w.cfg (planOf w.lOp w) + (w.frameIdx + 1)
    rw [hplan, hcfg, hstep, htodo, hframe]
    omega

theorem RunningOk.between {s w : State} {i : Item} {r : List Item} (h : RunningOk s) (hw : samePoint s w)
    (hactive : s.active = true) (htodo : s.todo = i :: r) (hlast : s.frameIdx + 1 = i.actions s.cfg) :
    Between r { w with stepNo := w.stepNo + 1, frameIdx := 0, waiting := false, delayOn := false } := by
  obtain ⟨hopCur, hplan, hlOp, hcfg⟩ := h.at_samePoint hw
  obtain ⟨i', r', n, htodo', -, hn, -, hnext⟩ := h.inside
  obtain ⟨rfl, rfl⟩ : i = i' ∧ r = r' := by simpa [htodo] using htodo'
  obtain ⟨-, hlegal, -, hsuffix, -, hcount⟩ := h
  obtain ⟨-, hact, -, hstep, -, -, hx, -⟩ := hw
  refine ⟨hopCur, hlOp ▸ hlegal, ?_, hact.trans hactive, rfl, rfl, rfl, ?_, ?_⟩
  · show r <:+ planOf w.lOp w
    rw [hplan]
    exact (List.suffix_cons i r).trans (htodo ▸ hsuffix)
  · show w.stepNo + 1 + actionCount w.cfg r = actionCount w.cfg (planOf w.lOp w)
    rw [htodo, actionCount_cons] at hcount
    rw [hplan, hcfg, hstep]
    omega
  · show LifeNext w.lOp (w.stepNo + 1) r w.life
    rw [hlOp, hstep, hx, hn, Nat.add_assoc, hlast]
    exact hnext

theorem sequencerAction_inv {s t : State} (hinv : Inv s) (hactive : s.active = true) (h : sequencerAction s = .next t) :
    Inv t := by
  have hrun := hinv.running hactive
  have hpos : positionOk s = true := by
    obtain ⟨-, -, -, -, hpos, -⟩ := hrun
    exact hpos
  obtain ⟨-, -, hout, -⟩ := sequencerAction_kept s t h
  refine hinv.of_outside (sameOutside_setRdata hout) ?_ ?_
  · cases sequencerAction_acted h with
    | stays _ _ hlines _ => exact hlines hinv.lines_idle
    | frame w b a r _ hlines => exact hlines hinv.lines_idle
    | finishes w i r _ hlines =>
      obtain ⟨⟨-, -, hl⟩, -⟩ := finishAction_trace w
      exact hl ▸ hlines hinv.lines_idle
    | aborts w e _ hlines => exact ⟨rfl, rfl, rfl, (hlines hinv.lines_idle).2.2.2⟩
  · have running {u : State} (hact : u.active = true) (hu : RunningOk u) : SequencerOk u :=
      ⟨fun hidle => absurd (hact.symm.trans hidle) Bool.noConfusion, fun _ => hu⟩
    cases sequencerAction_acted h with
    | stays _ hpoint _ hpos' =>
      exact running (hpoint.2.1.trans hactive) (hrun.of_samePoint hpoint (hpos' hpos))
    | frame w b a r hw _ hcmd htimers hidx =>
      exact running (hw.2.1.trans hactive) (hrun.nextFrame hw hcmd htimers hidx)
    | finishes w i r hw _ htodo _ hlast =>
      have hr : w.todo.tail = r := by
        obtain ⟨-, -, -, -, ht, -⟩ := hw
        rw [ht, htodo]
        rfl
      unfold finishAction
      rw [hr]
      exact (hrun.between hw hactive htodo (hlast hpos)).settle_ok
    | aborts w e _ _ _ => exact ⟨fun _ => ⟨rfl, rfl, rfl, rfl, rfl, rfl, nofun, nofun⟩, fun hrun => nomatch hrun⟩

/-! ### The host's access -/

theorem RunningOk.of_sameSequencer {s t : State} (h : RunningOk s) (hcfg : t.cfg = s.cfg) (hs : sameSequencer s t)
    (hl : sameLatches s t) : RunningOk t := by
  obtain ⟨hopCur, hlegal, hlife, hsuffix, hpos, hcount⟩ := h
  have hplan := planOf_congr t.lOp hcfg hl
  obtain ⟨-, hop, hstep, htodo, hidx, hwait, hdelay, -, -, hx, -⟩ := hs
  obtain ⟨hlOp, -⟩ := hl
  rw [hlOp] at hplan
  unfold RunningOk positionOk
  rw [hlOp, hplan, hop, hcfg, hstep, htodo, hidx, hwait, hdelay, hx]
  exact ⟨hopCur, hlegal, hlife, hsuffix, hpos, hcount⟩

theorem SequencerOk.of_sameSequencer {s t : State} (h : SequencerOk s) (hcfg : t.cfg = s.cfg) (hs : sameSequencer s t)
    (hl : sameLatches s t) : SequencerOk t := by
  refine ⟨fun ht => ?_, fun ht => ?_⟩
  · obtain ⟨hact, hop, hstep, htodo, hidx, hwait, hdelay, -, -, hx, -⟩ := hs
    have hidle := h.1 (hact.symm.trans ht)
    unfold IdleOk
    rwa [hop, hstep, htodo, hidx, hwait, hdelay, hx]
  · exact (h.2 (hs.1.symm.trans ht)).of_sameSequencer hcfg hs hl

/-- R201: an operation taken up in a STATE that accepts it shows its first STATE. -/
theorem planOf_start_life (op : BitVec 4) (s : State) (x : LifeState) (hop : legalOp op = true)
    (hx : accepts op x = true) : LifeNext op 0 (planOf op s) x := by
  induction op, hop using legalOp_cases with
  | reset => simp [resetPlan, resetSeq, hwResetPulse]
  | init => simp [initPlan, resetSeq, hwResetPulse]
  | setWindow => simpa [setWindowPlan, setWindowProc, accepts] using hx
  | setCursor => simpa [setCursorPlan, setCursorProc, accepts] using hx
  | setLut => simpa [setLutPlan, setLutProc, accepts] using hx
  | display => simp [displayPlan, writeImageProc]
  | displayBase => simp [displayBasePlan, writeImageProc]
  | displayPartial =>
    simp only [planOf_displayPartial, displayPartialPlan, partialLoad]
    split <;> simp [shortResetPulse, setLutProc]
  | clear => simp [clearPlan, fillProc]
  | sleep => simpa [sleepPlan, accepts] using hx

theorem startChecks_accepts {op : BitVec 4} {s : State} (h : startChecks op s = none) : accepts op s.life = true := by
  unfold startChecks at h
  split at h
  · cases h
  · split at h
    · cases h
    · simpa using ‹¬(!accepts op s.life) = true›

theorem acceptCommand_sequencerOk (op : BitVec 4) {s : State} (h : SequencerOk s) (hidle : s.active = false) :
    SequencerOk (acceptCommand op (planOf op) s) := by
  rcases acceptCommand_cases op (planOf op) s with ⟨hact, -⟩ | ⟨-, r, -, -, e⟩ | ⟨-, hlegal, hchecks, e⟩
  · simp [hidle] at hact
  · rw [e]
    obtain ⟨-, -, -, -, -, -, hlife⟩ := h.1 hidle
    exact ⟨fun _ => ⟨rfl, rfl, rfl, rfl, rfl, rfl, hlife⟩, fun hrun => nomatch hrun⟩
  · rw [e]
    exact Between.settle_ok ⟨rfl, hlegal, List.suffix_rfl, rfl, rfl, rfl, rfl, Nat.zero_add _,
      planOf_start_life op _ _ hlegal (startChecks_accepts hchecks)⟩

theorem hostPhase_inv {access : Option Access} {s t : State} (hinv : Inv s) (h : hostPhase access s = .next t) :
    Inv t := by
  obtain ⟨hout, -, -, hlines⟩ := hostPhase_outside h
  refine hinv.of_outside hout (hlines ▸ hinv.lines_idle) ?_
  rcases hostPhase_sequencer h with ⟨hs, hl⟩ | ⟨hidle, a, -, -, -, rfl⟩
  · exact hinv.sequencer.of_sameSequencer hout.1 hs hl
  · exact acceptCommand_sequencerOk _ hinv.sequencer hidle

/-! ### A whole clock -/

theorem takeInput_inv {s : State} (h : Inv s) : Inv s.takeInput :=
  ⟨h.cfg_valid, Memory.writes_wf _ _ h.mem_wf, h.sync_length, h.lines_idle, h.idle, h.running⟩

theorem blockReset_inv {s : State} (h : Inv s) : Inv (blockReset s) :=
  ⟨h.cfg_valid, h.mem_wf, List.length_replicate, ⟨rfl, rfl, rfl, rfl⟩,
    fun _ => ⟨rfl, rfl, rfl, rfl, rfl, rfl, nofun, nofun⟩, fun hrun => nomatch hrun⟩

theorem shiftSync_inv {s : State} (h : Inv s) : Inv (shiftSync s) :=
  ⟨h.cfg_valid, h.mem_wf, by simp [h.sync_length], h.lines_idle, h.idle, h.running⟩

/-- Settles O38: taking the inputs, the host's access, the sequencer's action, the shift of the synchroniser and block reset each
keep `Inv`. The sequencer acts only in a clock that began with ACTIVE = 1, which the host's access cannot end. -/
theorem stepKeepsInvariant : Obligations.StepKeepsInvariant := by
  intro s t hinv h
  obtain ⟨-, ⟨-, rfl⟩ | ⟨-, u, v, hu, hv, rfl⟩⟩ := step_cases s t h
  · exact blockReset_inv (takeInput_inv hinv)
  · have hinv' := hostPhase_inv (takeInput_inv hinv) hu
    refine shiftSync_inv ?_
    cases hs : s.active with
    | false =>
      rw [hs] at hv
      cases hv
      exact hinv'
    | true =>
      rcases sequencerPhase_cases hv with hv | rfl
      · obtain ⟨⟨hact, -⟩, -⟩ := hostPhase_running (s := s.takeInput) hs hu
        exact sequencerAction_inv hinv' (hact.trans hs) hv
      · exact hinv'

/-- Settles O50: a running operation is inside one of the actions of its list, and no list is longer than the bound. -/
theorem stepNumberBounded : Obligations.StepNumberBounded := by
  intro s hinv
  show s.stepNo < 3 * s.cfg.imgBytes + 200
  cases hs : s.active with
  | false =>
    obtain ⟨-, hstep, -⟩ := hinv.idle hs
    omega
  | true =>
    have hrun := hinv.running hs
    obtain ⟨i, r, n, htodo, hlt, -⟩ := hrun.inside
    obtain ⟨-, hlegal, -, -, -, hcount⟩ := hrun
    have hle := planOf_count_le s.lOp s hlegal hinv.cfg_valid
    rw [htodo, actionCount_cons] at hcount
    omega

end Sys2Proof.Machine
end

section
/-! PROOFS. The register file (R34-R44): what a read returns, what a write changes, and the layout of STATUS. -/

namespace Sys2Proof.Machine

/-! ### Reads -/

@[simp] theorem readReg_status (s : State) : readReg 0x04 s = statusWord s := rfl
@[simp] theorem readReg_winX (s : State) : readReg 0x08 s = s.winX := rfl
@[simp] theorem readReg_winY (s : State) : readReg 0x0C s = s.winY := rfl
@[simp] theorem readReg_cursor (s : State) : readReg 0x10 s = s.cursor := rfl
@[simp] theorem readReg_colour (s : State) : readReg 0x14 s = s.colour.setWidth 32 := rfl
@[simp] theorem readReg_lutSel (s : State) : readReg 0x18 s = (BitVec.ofBool s.lutSel.bit).setWidth 32 := rfl
@[simp] theorem readReg_imgBase (s : State) : readReg 0x1C s = s.imgBase := rfl
@[simp] theorem readReg_imgLen (s : State) : readReg 0x20 s = s.imgLen := rfl
@[simp] theorem readReg_irqEn (s : State) : readReg 0x24 s = (BitVec.ofBool s.doneIe).setWidth 32 := rfl
@[simp] theorem readReg_geometry (s : State) : readReg 0x28 s = geometryWord s.cfg := rfl

theorem readReg_lutSel_eq_ite (s : State) : readReg 0x18 s = if s.lutSel = .part then 1#32 else 0#32 := by
  rw [readReg_lutSel]
  cases s.lutSel <;> rfl

theorem readReg_irqEn_eq_ite (s : State) : readReg 0x24 s = if s.doneIe then 1#32 else 0#32 := by
  rw [readReg_irqEn]
  cases s.doneIe <;> rfl

theorem readReg_reserved (off : Nat) (s : State) (h : 0x2C ≤ off) : readReg off s = 0#32 := by
  unfold readReg
  split
  case h_11 => rfl
  all_goals omega

theorem geometryWord_toNat (p : Params) :
    (geometryWord p).toNat = p.width % 65536 + p.height % 65536 * 65536 := by
  have hlo : p.width % 65536 < 2 ^ 16 := Nat.mod_lt _ (by decide)
  rw [geometryWord, BitVec.toNat_append, BitVec.toNat_ofNat, BitVec.toNat_ofNat]
  rw [← Nat.shiftLeft_add_eq_or_of_lt hlo, Nat.shiftLeft_eq, Nat.add_comm]

/-- Settles O12: a defined read returns what `readReg` gives at its offset, register by register. -/
theorem registerReads : Obligations.RegisterReads := by
  intro a s hwf hread
  have haccess : hostAccess a s = .next { s with rdata := readReg (a.offset s.cfg) s } := by
    simp [hostAccess, hwf, hread]
  refine ⟨_, haccess, ?_, ?_, ?_, ?_, ?_, ?_, ?_, ?_, ?_, ?_, ?_, readReg_reserved _ s⟩ <;> intro h <;> rw [h]
  case refine_6 => exact BitVec.toNat_setWidth_of_le (by decide)
  case refine_7 => exact readReg_lutSel_eq_ite s
  case refine_10 => exact readReg_irqEn_eq_ite s
  case refine_11 => exact geometryWord_toNat s.cfg
  all_goals rfl

/-! ### Writes -/

theorem writeReg_ignored (off : Nat) (v : Word) (s : State) (h : 0x28 ≤ off) : writeReg off v s = s := by
  unfold writeReg
  split
  case h_10 => rfl
  all_goals omega

/-- A write at an offset leaves the registers at the others. -/
theorem writeReg_others (off : Nat) (v : Word) (s : State) :
    (off ≠ 0x08 → (writeReg off v s).winX = s.winX) ∧ (off ≠ 0x0C → (writeReg off v s).winY = s.winY)
      ∧ (off ≠ 0x10 → (writeReg off v s).cursor = s.cursor) ∧ (off ≠ 0x14 → (writeReg off v s).colour = s.colour)
      ∧ (off ≠ 0x18 → (writeReg off v s).lutSel = s.lutSel) ∧ (off ≠ 0x1C → (writeReg off v s).imgBase = s.imgBase)
      ∧ (off ≠ 0x20 → (writeReg off v s).imgLen = s.imgLen) ∧ (off ≠ 0x24 → (writeReg off v s).doneIe = s.doneIe) := by
  unfold writeReg
  split <;> simp

theorem readReg_writeReg_other (off off' : Nat) (v : Word) (s : State) (hstatus : off ≠ 0x04) (h : off' ≠ off) :
    readReg off' (writeReg off v s) = readReg off' s := by
  obtain ⟨hwx, hwy, hcur, hcol, hlut, hbase, hlen, hie⟩ := writeReg_others off v s
  have hargs := writeReg_arguments off v s hstatus
  unfold readReg
  split
  · rw [hargs]
    rfl
  · exact hwx h.symm
  · exact hwy h.symm
  · exact hcur h.symm
  · rw [hcol h.symm]
  · rw [hlut h.symm]
  · exact hbase h.symm
  · exact hlen h.symm
  · rw [hie h.symm]
  · rw [hargs]
  · rfl

theorem hostAccess_write {a : Access} {s : State} (hwf : a.wf s.cfg = true) (hw : a.write = true)
    (ho : a.offset s.cfg ≠ 0) : hostAccess a s = .next (writeReg (a.offset s.cfg) a.data s) := by
  simp [hostAccess, hwf, hw, ho]

theorem setWidth_ofBool_getLsbD_zero (v : Word) : (BitVec.ofBool (v.getLsbD 0)).setWidth 32 = v &&& 1#32 := by
  ext i hi
  cases i <;> simp

theorem setWidth_eight_setWidth (v : Word) : (v.setWidth 8).setWidth 32 = v &&& 0xFF#32 := by
  refine BitVec.eq_of_toNat_eq ?_
  rw [BitVec.toNat_setWidth, BitVec.toNat_setWidth, BitVec.toNat_and, show (0xFF#32).toNat = 2 ^ 8 - 1 from rfl,
    Nat.and_two_pow_sub_one_eq_mod]
  omega

/-- Settles O14: a defined write is `writeReg`, which changes the one register at its offset. -/
theorem registerWriteReadBack : Obligations.RegisterWriteReadBack := by
  intro a s hwf hw ho hstatus
  refine ⟨_, hostAccess_write hwf hw ho, ?_, ?_, ?_, ?_, writeReg_ignored _ _ s,
    fun off => readReg_writeReg_other _ off _ s hstatus, writeReg_arguments _ _ s hstatus⟩
  · intro h
    simp only [List.mem_cons, List.not_mem_nil, or_false] at h
    rcases h with h | h | h | h | h <;> rw [h] <;> rfl
  · intro h
    rw [h]
    exact setWidth_eight_setWidth a.data
  · intro h
    rw [h, ← setWidth_ofBool_getLsbD_zero]
    show (BitVec.ofBool (Lut.ofBit (a.data.getLsbD 0)).bit).setWidth 32 = _
    cases a.data.getLsbD 0 <;> rfl
  · intro h
    rw [h]
    exact setWidth_ofBool_getLsbD_zero a.data

/-- Settles O16: at offset 0x04 the write is `writeStatus`. -/
theorem statusWriteClears : Obligations.StatusWriteClears := by
  intro a s hwf hw ho
  have haccess := hostAccess_write hwf hw (s := s) (by omega)
  rw [ho] at haccess
  refine ⟨writeStatus a.data s, haccess, rfl, ?_, ?_, ?_, ?_⟩ <;> intro h <;>
    simp only [State.irqO, writeStatus_done, writeStatus_dropped, h, Bool.not_true, Bool.not_false, Bool.and_false,
      Bool.and_true, Bool.false_and, and_self]

/-! ### GEOMETRY and STATUS -/

/-- Settles O13: GEOMETRY joins the two 16-bit fields, which WIDTH and HEIGHT fit in, and no step changes the parameters. -/
theorem geometryIsConstant : Obligations.GeometryIsConstant := by
  intro s hvalid
  obtain ⟨hmod, -, hwidth, -, hheight, -⟩ := (Params.valid_iff s.cfg).mp hvalid
  refine ⟨?_, ?_, ?_, ?_, ?_, ?_⟩
  · rw [readReg_geometry, geometryWord, BitVec.extractLsb'_append_eq_of_add_le (by decide), BitVec.extractLsb'_eq_self]
  · rw [readReg_geometry, geometryWord, BitVec.extractLsb'_append_eq_of_le (by decide), BitVec.extractLsb'_eq_self]
  · have hlo : (s.cfg.width % 65536 + s.cfg.height % 65536 * 65536) % 65536 = s.cfg.width := by omega
    have hhi : (s.cfg.width % 65536 + s.cfg.height % 65536 * 65536) / 65536 = s.cfg.height := by omega
    rw [readReg_geometry, geometryWord_toNat, hlo, hhi, s.cfg.imgBytes_mul_eight hmod, Nat.mul_comm]
  · intro a hwf hw ho
    rw [hostAccess_write hwf hw (by omega), writeReg_ignored _ _ s (by omega)]
  · intro t h
    obtain ⟨hcfg, -⟩ := onlyHostWritesImageMemory s t h
    simp only [readReg_geometry, hcfg]
  · intro hw hh
    simp [geometryWord, hw, hh]

/-! A field of STATUS is found by dropping the parts of `statusWord` that are joined below it. -/

theorem statusWord_life (s : State) : (statusWord s).extractLsb' 4 3 = s.life.code := by
  simp only [statusWord, BitVec.extractLsb'_append_eq_of_le, Nat.reduceLeDiff, Nat.reduceSub]
  rw [BitVec.extractLsb'_append_eq_of_add_le (by decide), BitVec.extractLsb'_eq_self]

theorem statusWord_result (s : State) : (statusWord s).extractLsb' 8 4 = s.result.code := by
  simp only [statusWord, BitVec.extractLsb'_append_eq_of_le, Nat.reduceLeDiff, Nat.reduceSub]
  rw [BitVec.extractLsb'_append_eq_of_add_le (by decide), BitVec.extractLsb'_eq_self]

theorem statusWord_unused (s : State) : (statusWord s).extractLsb' 14 18 = 0#18 := by
  simp only [statusWord, BitVec.extractLsb'_append_eq_of_le, Nat.reduceLeDiff, Nat.reduceSub]
  rw [BitVec.extractLsb'_eq_self]

/-- Settles O15: each field of STATUS is one of the parts that `statusWord` joins. -/
theorem statusLayout : Obligations.StatusLayout := by
  intro s
  refine ⟨?_, ?_, ?_, ?_, ?_, ?_, ?_, ?_, ?_, statusWord_unused s⟩
  · rw [statusWord_life]
    cases s.life <;> rfl
  · rw [statusWord_result]
    cases s.result <;> rfl
  all_goals simp only [statusWord, BitVec.getLsbD_append]
  case refine_5 => cases s.lutMode <;> simp [Lut.bit]
  all_goals simp

end Sys2Proof.Machine
end

section
/-! PROOFS. What a clock does to the registers, the latched copies and STATUS, with an operation running and without; and how a
CMD write starts an operation. -/

namespace Sys2Proof.Machine

/-! ### A CMD write -/

/-- Settles O17: a host operation is a CMD write, which is dropped while ACTIVE = 1. -/
theorem commandDroppedWhileActive : Obligations.CommandDroppedWhileActive := by
  intro op i s hi hactive
  rw [exec_hostOp op i hi, acceptCommand_active _ _ s hactive]

theorem opField_toNat (w : Word) : (opField w).toNat = w.toNat % 16 := by
  simp [opField, BitVec.extractLsb'_toNat]

theorem hostOpOf_reserved {op : BitVec 4} (h : op.toNat = 0 ∨ 11 ≤ op.toNat) : hostOpOf op = none := by
  unfold hostOpOf
  split
  case h_11 => rfl
  all_goals omega

/-- Settles O22: the first start check fails, and `complete` leaves the sequencer position of an idle block. -/
theorem reservedOpIsIllegalOp : Obligations.ReservedOpIsIllegalOp := by
  intro w s hop hactive hidle
  have hnone : hostOpOf (opField w) = none := hostOpOf_reserved (by rwa [opField_toNat])
  have hwrite : writeCmd w s = .next (acceptCommand (opField w) (fun _ => []) s) := by
    simp [writeCmd, decode, hnone]
  have haccept : acceptCommand (opField w) (fun _ => []) s = complete .illegalOp (latch (opField w) s) := by
    simp [acceptCommand, startChecks, legalOp, hactive, hnone]
  obtain ⟨hopCur, hstep, htodo, hidx, hwait, hdelay, -⟩ := hidle
  rw [hwrite, haccept]
  cases s
  simp_all [complete, latch, opField]

/-- Settles O36: the host's access is the decoded operation, and with ACTIVE = 0 at its start the clock holds no action. -/
theorem stepRunsHostOperation : Obligations.StepRunsHostOperation := by
  intro s a i hvalid hrst hidle haccess hwf hwrite hoff hi
  have hhost : hostPhase s.nextInput.access s.takeInput = exec i s.takeInput := by
    simp [haccess, hostPhase, hostAccess, hwf, hwrite, hoff, writeCmd, hi]
  have hseq (u : State) : sequencerPhase s.takeInput.active s.nextInput.stall u = .next u := by
    simp [sequencerPhase, hidle]
  have hclock : step s = runClock s.nextInput s.takeInput := by
    simp [step, clock, hvalid, hrst]
  rw [hclock, runClock, hhost]
  simp only [hseq, andThen]

/-! ### The start of an operation (O18) -/

theorem accepts_of_acceptedIn {op : BitVec 4} {i : Instr} {x : LifeState} (hi : hostOpOf op = some i)
    (h : x ∈ acceptedIn i) : accepts op x = true := by
  have hop : legalOp op = true := by simp [legalOp, hi]
  induction op, hop using legalOp_cases <;> cases hi <;> simp_all [acceptedIn, accepts, or_assoc]

theorem isImageOp_eq_takesImage {op : BitVec 4} {i : Instr} (hi : hostOpOf op = some i) : isImageOp op = takesImage i := by
  have hop : legalOp op = true := by simp [legalOp, hi]
  induction op, hop using legalOp_cases <;> cases hi <;> rfl

/-- An operation whose start checks pass is taken up (R263). -/
theorem acceptCommand_starts {op : BitVec 4} {i : Instr} {s : State} (hi : hostOpOf op = some i) (hstart : CanStart i s)
    (hlen : takesImage i = true → s.imgLen ≠ 0#32) :
    acceptCommand op (planOf op) s = settle (planOf op (latch op s)) (latch op s) := by
  obtain ⟨hidle, hlife, hbytes⟩ := hstart
  have hlegal : legalOp op = true := by simp [legalOp, hi]
  have haccepts := accepts_of_acceptedIn hi hlife
  have himage := isImageOp_eq_takesImage hi
  have hchecks : startChecks op (latch op s) = none := by
    cases htakes : takesImage i with
    | false => simp [startChecks, hlegal, haccepts, himage, htakes]
    | true =>
      have hne : s.cfg.imgBytes ≠ 0 := fun h =>
        hlen htakes (BitVec.eq_of_toNat_eq ((hbytes htakes).trans h))
      simp [startChecks, hlegal, haccepts, himage, htakes, hbytes htakes, hne]
  simp [acceptCommand, hidle, hchecks]

theorem planTrace_append (s : State) (l l' : List Item) : planTrace s (l ++ l') = planTrace s l ++ planTrace s l' :=
  List.flatMap_append

/-- Taking up an operation's action list shows the STATE of R201's second column and stops at its first action. -/
theorem planOf_settle {op : BitVec 4} {i : Instr} (hi : hostOpOf op = some i) (s : State) :
    ∃ x r w, planOf op s = w ++ x :: r ∧ (∀ u, planTrace u w = []) ∧ (∀ p, actionCount p w = 0)
      ∧ settle (planOf op s) s = { s with life := lifeAtStart i s.life, todo := x :: r } := by
  have hop : legalOp op = true := by simp [legalOp, hi]
  induction op, hop using legalOp_cases <;> cases hi
  case reset => exact ⟨_, _, [.setState .hardwareReset], rfl, fun _ => rfl, fun _ => rfl, rfl⟩
  case init => exact ⟨_, _, [.setState .hardwareReset], rfl, fun _ => rfl, fun _ => rfl, rfl⟩
  case displayPartial =>
    rw [planOf_displayPartial, displayPartialPlan, partialLoad]
    split <;> exact ⟨_, _, [.setState .displaying], rfl, fun _ => rfl, fun _ => rfl, rfl⟩
  case display => exact ⟨_, _, [.setState .displaying], rfl, fun _ => rfl, fun _ => rfl, rfl⟩
  case displayBase => exact ⟨_, _, [.setState .displaying], rfl, fun _ => rfl, fun _ => rfl, rfl⟩
  case clear => exact ⟨_, _, [.setState .displaying], rfl, fun _ => rfl, fun _ => rfl, rfl⟩
  all_goals exact ⟨_, _, [], rfl, fun _ => rfl, fun _ => rfl, rfl⟩

/-- Settles O18: what is left of the action list is all of it but for the `STATE <-` at its head, which sends nothing and is no
action. -/
theorem acceptedOperationStarts : Obligations.AcceptedOperationStarts := by
  intro op i s hi hstart hlen
  have hexec := exec_hostOp op i hi s
  rw [acceptCommand_starts hi hstart hlen] at hexec
  obtain ⟨x, r, w, hplan, htrace, hcount, hsettle⟩ := planOf_settle hi (latch op s)
  rw [hsettle] at hexec
  have hplan' : planOf op { latch op s with life := lifeAtStart i s.life, todo := x :: r } = w ++ x :: r :=
    (planOf_congr op rfl (sameLatches.refl (latch op s))).trans hplan
  refine ⟨_, hexec, rfl, rfl, rfl, rfl, rfl, rfl, rfl, rfl, rfl, rfl, rfl, rfl, rfl, ⟨w, hplan'.symm⟩, ?_, ?_, rfl, rfl,
    rfl, rfl, (Kept.refl s).1, (Kept.refl s).2.2.1, rfl, rfl, rfl⟩
  · refine Eq.trans ?_ (congrArg _ hplan'.symm)
    rw [planTrace_append, htrace, List.nil_append]
  · refine Eq.trans ?_ (congrArg _ hplan'.symm)
    rw [actionCount_append, hcount, Nat.zero_add]

/-! ### The host's part of a clock -/

theorem sameRegisters.trans {s t u : State} (h : sameRegisters s t) (h' : sameRegisters t u) : sameRegisters s u := by
  simp_all [sameRegisters]

/-- The host's access changes registers by a register write only. -/
theorem hostPhase_registers {access : Option Access} {s t : State} (h : hostPhase access s = .next t) :
    sameRegisters s t
      ∨ ∃ a, access = some a ∧ a.write = true ∧ t = writeReg (a.offset s.cfg) a.data s := by
  rcases hostPhase_cases h with ⟨-, rfl⟩ | ⟨a, -, -, rfl⟩ | ⟨a, ha, hw, -, rfl⟩ | ⟨a, -, -, -, rfl⟩
  · exact .inl (Kept.refl t).1
  · exact .inl (Kept.refl s).1
  · exact .inr ⟨a, ha, hw, rfl⟩
  · obtain ⟨hregs, -⟩ := acceptCommand_sends_nothing (opField a.data) (planOf (opField a.data)) s
    exact .inl hregs

/-- A bit of STATUS that the host does not set, and clears only by writing a 1 to bit `n` of STATUS (R36). -/
def Sticky (n : Nat) (p : Params) (access : Option Access) (before after : Bool) : Prop :=
  (after = true → before = true)
    ∧ ((∀ a, access = some a → a.write = true → a.offset p = 0x04 → a.data.getLsbD n = false) → after = before)

theorem Sticky.refl (n : Nat) (p : Params) (access : Option Access) (b : Bool) : Sticky n p access b b := ⟨id, fun _ => rfl⟩

theorem Sticky.cleared {n : Nat} {p : Params} {a : Access} (b : Bool) (hw : a.write = true) (ho : a.offset p = 0x04) :
    Sticky n p (some a) b (b && !a.data.getLsbD n) := by
  refine ⟨fun h => ((Bool.and_eq_true _ _).mp h).1, fun h => ?_⟩
  rw [h a rfl hw ho]
  exact Bool.and_true b

theorem writeReg_sticky {a : Access} {s : State} (hw : a.write = true) :
    Sticky 12 s.cfg (some a) s.done (writeReg (a.offset s.cfg) a.data s).done
      ∧ Sticky 13 s.cfg (some a) s.dropped (writeReg (a.offset s.cfg) a.data s).dropped := by
  by_cases ho : a.offset s.cfg = 0x04
  · have hwrite : writeReg (a.offset s.cfg) a.data s = writeStatus a.data s := by rw [ho]; rfl
    rw [hwrite]
    exact ⟨Sticky.cleared _ hw ho, Sticky.cleared _ hw ho⟩
  · rw [writeReg_arguments _ _ s ho]
    exact ⟨Sticky.refl _ _ _ _, Sticky.refl _ _ _ _⟩

/-- A CMD write with ACTIVE = 0 leaves DONE, or sets it where the operation ends at once. -/
theorem acceptCommand_done (op : BitVec 4) (plan : State → List Item) (s : State) :
    (acceptCommand op plan s).done = s.done ∨ s.active = false ∧ (acceptCommand op plan s).done = true := by
  rcases acceptCommand_cases op plan s with ⟨-, e⟩ | ⟨hs, r, -, -, e⟩ | ⟨hs, -, -, e⟩ <;> rw [e]
  · exact .inl rfl
  · exact .inr ⟨hs, rfl⟩
  · rcases settle_cases (plan (latch op s)) (latch op s) with ⟨x, m, i, r, -, -, e⟩ | ⟨-, x, m, e⟩ <;> rw [e]
    · exact .inl rfl
    · exact .inr ⟨hs, rfl⟩

/-- A CMD write sets DROPPED with ACTIVE = 1, and leaves it otherwise. -/
theorem acceptCommand_dropped (op : BitVec 4) (plan : State → List Item) (s : State) :
    (acceptCommand op plan s).dropped = (s.active || s.dropped) := by
  rcases acceptCommand_cases op plan s with ⟨hs, e⟩ | ⟨hs, r, -, -, e⟩ | ⟨hs, -, -, e⟩ <;> rw [e, hs]
  · rfl
  · rfl
  · obtain ⟨-, -, -, hdropped⟩ := settle_kept (plan (latch op s)) (latch op s)
    exact hdropped

/-- The host's access is a write to CMD. -/
def WritesCmd (p : Params) (access : Option Access) : Prop :=
  ∃ a, access = some a ∧ a.write = true ∧ a.offset p = 0

/-- DONE is sticky against the host, but for a CMD write with ACTIVE = 0. -/
theorem hostPhase_done {access : Option Access} {s t : State} (h : hostPhase access s = .next t) :
    Sticky 12 s.cfg access s.done t.done ∨ (s.active = false ∧ WritesCmd s.cfg access ∧ t.done = true) := by
  rcases hostPhase_cases h with ⟨-, rfl⟩ | ⟨a, -, -, rfl⟩ | ⟨a, rfl, hw, -, rfl⟩ | ⟨a, ha, hw, ho, rfl⟩
  · exact .inl (Sticky.refl _ _ _ _)
  · exact .inl (Sticky.refl _ _ _ _)
  · exact .inl (writeReg_sticky hw).1
  · rcases acceptCommand_done (opField a.data) (planOf (opField a.data)) s with e | ⟨hs, e⟩ <;> rw [e]
    · exact .inl (Sticky.refl _ _ _ _)
    · exact .inr ⟨hs, ⟨a, ha, hw, ho⟩, rfl⟩

/-- DROPPED is sticky against the host, but for a CMD write with ACTIVE = 1. -/
theorem hostPhase_dropped {access : Option Access} {s t : State} (h : hostPhase access s = .next t) :
    Sticky 13 s.cfg access s.dropped t.dropped ∨ (s.active = true ∧ WritesCmd s.cfg access ∧ t.dropped = true) := by
  rcases hostPhase_cases h with ⟨-, rfl⟩ | ⟨a, -, -, rfl⟩ | ⟨a, rfl, hw, -, rfl⟩ | ⟨a, ha, hw, ho, rfl⟩
  · exact .inl (Sticky.refl _ _ _ _)
  · exact .inl (Sticky.refl _ _ _ _)
  · exact .inl (writeReg_sticky hw).2
  · rw [acceptCommand_dropped]
    cases hs : s.active with
    | false => exact .inl (Sticky.refl _ _ _ _)
    | true => exact .inr ⟨rfl, ⟨a, ha, hw, ho⟩, rfl⟩

/-! ### A clock with rst_n = 1 -/

/-- A clock with rst_n = 1 is the host's access and then the sequencer's action, when one is due. -/
theorem step_phases {s t : State} (hrst : s.nextInput.rstN = true) (h : step s = .next t) :
    ∃ u v, hostPhase s.nextInput.access s.takeInput = .next u
      ∧ sequencerPhase s.active s.nextInput.stall u = .next v ∧ t = shiftSync v := by
  obtain ⟨-, ⟨hrst', -⟩ | ⟨-, hphases⟩⟩ := step_cases s t h
  · simp [hrst] at hrst'
  · exact hphases

theorem sequencerPhase_idle {stall : Bool} {s t : State} (h : sequencerPhase false stall s = .next t) : t = s := by
  cases h
  rfl

/-- Settles O41: of the phases of a clock only the host's register write changes a register, and only the one at its offset. -/
theorem registersOnlyByHostWrite : Obligations.RegistersOnlyByHostWrite := by
  intro s t hrst h written
  obtain ⟨u, v, hu, hv, rfl⟩ := step_phases hrst h
  have hsame : sameRegisters u (shiftSync v) := (sequencerPhase_kept hv).1
  rcases hostPhase_registers hu with hregs | ⟨a, ha, hw, rfl⟩
  · obtain ⟨hwx, hwy, hcur, hcol, hlut, hbase, hlen, hie⟩ := sameRegisters.trans hregs hsame
    exact ⟨fun _ => hwx, fun _ => hwy, fun _ => hcur, fun _ => hcol, fun _ => hlut, fun _ => hbase, fun _ => hlen,
      fun _ => hie⟩
  · have other {off : Nat} (hoff : ¬ written off) : a.offset s.cfg ≠ off := fun ho => hoff ⟨a, ha, hw, ho⟩
    obtain ⟨hwx, hwy, hcur, hcol, hlut, hbase, hlen, hie⟩ := hsame
    obtain ⟨hwx', hwy', hcur', hcol', hlut', hbase', hlen', hie'⟩ := writeReg_others (a.offset s.cfg) a.data s.takeInput
    exact ⟨fun hn => hwx.trans (hwx' (other hn)), fun hn => hwy.trans (hwy' (other hn)),
      fun hn => hcur.trans (hcur' (other hn)), fun hn => hcol.trans (hcol' (other hn)),
      fun hn => hlut.trans (hlut' (other hn)), fun hn => hbase.trans (hbase' (other hn)),
      fun hn => hlen.trans (hlen' (other hn)), fun hn => hie.trans (hie' (other hn))⟩

/-- Settles O42: with ACTIVE = 1 neither the host's access nor the sequencer's action copies an argument. -/
theorem latchedArgumentsFixedWhileActive : Obligations.LatchedArgumentsFixedWhileActive := by
  intro s t hactive hrst h
  obtain ⟨u, v, hu, hv, rfl⟩ := step_phases hrst h
  obtain ⟨-, hhost⟩ := hostPhase_running (s := s.takeInput) hactive hu
  obtain ⟨-, hseq, -⟩ := sequencerPhase_kept hv
  exact sameLatches.trans hhost hseq

/-- Settles O43: without a running operation a clock is the host's access alone. -/
theorem idleBlockSendsNothing : Obligations.IdleBlockSendsNothing := by
  intro s t hidle hrst h
  obtain ⟨u, v, hu, hv, rfl⟩ := step_phases hrst h
  rw [hidle] at hv
  obtain rfl := sequencerPhase_idle hv
  obtain ⟨-, htrace⟩ := hostPhase_outside hu
  have hdropped : Sticky 13 s.cfg s.nextInput.access s.dropped v.dropped := by
    rcases hostPhase_dropped hu with hsticky | ⟨hactive, -⟩
    · exact hsticky
    · exact absurd (hactive.symm.trans hidle) Bool.noConfusion
  refine ⟨htrace, fun hclear hset => ?_, hdropped.2, hdropped.1, fun hcmd => ?_⟩
  · rcases hostPhase_done hu with hsticky | ⟨-, -, hdone⟩
    · exact (hsticky.2 hclear).trans hset
    · exact hdone
  · have nocmd : ¬ WritesCmd s.cfg s.nextInput.access := by
      rintro ⟨a, ha, hw, ho⟩
      rcases hcmd a ha with hread | hoff
      · exact absurd (hw.symm.trans hread) Bool.noConfusion
      · exact hoff ho
    have hdone : Sticky 12 s.cfg s.nextInput.access s.done v.done :=
      (hostPhase_done hu).resolve_right fun ⟨_, hwrites, _⟩ => nocmd hwrites
    rcases hostPhase_sequencer hu with ⟨⟨hactive, -, -, -, -, -, -, -, -, hlife, hmode, hresult⟩, -⟩ | ⟨-, a, ha, hw, ho, -⟩
    · exact ⟨hactive.trans hidle, hlife, hmode, hresult, hdone⟩
    · exact (nocmd ⟨a, ha, hw, ho⟩).elim

/-! ### A clock of a running operation -/

/-- An action that ends leaves RESULT, DONE and the operation that runs, or ends the operation with DONE. -/
theorem finishAction_status (s : State) (hactive : s.active = true) :
    ((finishAction s).active = false → (finishAction s).done = true)
      ∧ ((finishAction s).active = true →
        (finishAction s).result = s.result ∧ (finishAction s).done = s.done ∧ (finishAction s).opCur = s.opCur) := by
  unfold finishAction
  rcases settle_cases s.todo.tail { s with stepNo := s.stepNo + 1, frameIdx := 0, waiting := false, delayOn := false } with
    ⟨x, m, i, r, -, -, e⟩ | ⟨-, x, m, e⟩ <;> rw [e]
  · exact ⟨fun hidle => absurd (hactive.symm.trans hidle) Bool.noConfusion, fun _ => ⟨rfl, rfl, rfl⟩⟩
  · exact ⟨fun _ => rfl, fun hrun => nomatch hrun⟩

/-- The sequencer's action leaves RESULT, DONE and the operation that runs, or ends the operation with DONE (R202, R268). -/
theorem sequencerAction_status {s t : State} (hactive : s.active = true) (h : sequencerAction s = .next t) :
    (t.active = false → t.done = true)
      ∧ (t.active = true → t.result = s.result ∧ t.done = s.done ∧ t.opCur = s.opCur) := by
  have runs {u : State} (hact : u.active = true) : u.active = false → u.done = true :=
    fun hidle => absurd (hact.symm.trans hidle) Bool.noConfusion
  cases sequencerAction_acted h with
  | stays _ hpoint =>
    obtain ⟨-, hact, hop, -, -, -, -, -, hresult, hdone⟩ := hpoint
    exact ⟨runs (hact.trans hactive), fun _ => ⟨hresult, hdone, hop⟩⟩
  | frame w _ _ _ hw =>
    obtain ⟨-, hact, hop, -, -, -, -, -, hresult, hdone⟩ := hw
    exact ⟨runs (u := nextFrame w) (hact.trans hactive), fun _ => ⟨hresult, hdone, hop⟩⟩
  | finishes w _ _ hw =>
    obtain ⟨-, hact, hop, -, -, -, -, -, hresult, hdone⟩ := hw
    obtain ⟨hends, hgoes⟩ := finishAction_status w (hact.trans hactive)
    refine ⟨hends, fun hrun => ?_⟩
    obtain ⟨hresult', hdone', hop'⟩ := hgoes hrun
    exact ⟨hresult'.trans hresult, hdone'.trans hdone, hop'.trans hop⟩
  | aborts => exact ⟨fun _ => rfl, fun hrun => nomatch hrun⟩

theorem sequencerPhase_status {running stall : Bool} {s t : State} (hactive : s.active = true)
    (h : sequencerPhase running stall s = .next t) :
    (t.active = false → t.done = true)
      ∧ (t.active = true → t.result = s.result ∧ t.done = s.done ∧ t.opCur = s.opCur) := by
  rcases sequencerPhase_cases h with h | rfl
  · exact sequencerAction_status hactive h
  · exact ⟨fun hidle => absurd (hactive.symm.trans hidle) Bool.noConfusion, fun _ => ⟨rfl, rfl, rfl⟩⟩

/-- Settles O45: the host's access clears DONE before the sequencer's action sets it. -/
theorem endOfOperationSetsDone : Obligations.EndOfOperationSetsDone := by
  intro s t hactive hrst h
  obtain ⟨u, v, hu, hv, rfl⟩ := step_phases hrst h
  obtain ⟨⟨hact, -, -, -, -, -, -, -, -, -, -, hresult⟩, -⟩ := hostPhase_running (s := s.takeInput) hactive hu
  obtain ⟨hends, hgoes⟩ := sequencerPhase_status (hact.trans hactive) hv
  obtain ⟨-, -, -, hdropped⟩ := sequencerPhase_kept hv
  have hdone : Sticky 12 s.cfg s.nextInput.access s.done u.done :=
    (hostPhase_done hu).resolve_right fun ⟨hidle, _⟩ => absurd (hactive.symm.trans hidle) Bool.noConfusion
  refine ⟨fun hidle => ?_, fun hrun => ?_, fun hclear hset => ?_, fun hset => ?_⟩
  · have hset := hends hidle
    exact ⟨hset, by simp [State.irqO, hset]⟩
  · obtain ⟨hresult', hdone', -⟩ := hgoes hrun
    exact ⟨hresult'.trans hresult, fun hset => hdone.1 (hdone'.symm.trans hset),
      fun hclear => hdone'.trans (hdone.2 hclear)⟩
  · refine hdropped.trans ?_
    rcases hostPhase_dropped hu with hsticky | ⟨-, -, hset'⟩
    · exact (hsticky.2 hclear).trans hset
    · exact hset'
  · rcases hostPhase_dropped hu with hsticky | ⟨-, hwrites, -⟩
    · exact .inl (hsticky.1 (hdropped.symm.trans hset))
    · exact .inr hwrites

/-- Settles O46: the host's access sees the operation still running. -/
theorem commandInLastClockDropped : Obligations.CommandInLastClockDropped := by
  intro s t a hactive hrst haccess hwf hw ho h
  have hlatches := latchedArgumentsFixedWhileActive s t hactive hrst h
  obtain ⟨u, v, hu, hv, rfl⟩ := step_phases hrst h
  have hdrop : u = { s.takeInput with dropped := true } := by
    rcases hostAccess_cases a s.takeInput with ⟨hwf', -⟩ | ⟨-, hr, -⟩ | ⟨-, -, ho', -⟩ | ⟨-, -, -, e⟩
    · exact absurd (hwf.symm.trans hwf') Bool.noConfusion
    · exact absurd (hw.symm.trans hr) Bool.noConfusion
    · exact absurd ho ho'
    · rw [haccess, hostPhase, e, acceptCommand_active _ _ s.takeInput hactive] at hu
      cases hu
      rfl
  subst hdrop
  obtain ⟨-, -, -, hdropped⟩ := sequencerPhase_kept hv
  obtain ⟨-, hgoes⟩ := sequencerPhase_status (s := { s.takeInput with dropped := true }) hactive hv
  exact ⟨hdropped, fun hrun => (hgoes hrun).2.2, hlatches⟩

/-! ### STATE = FAULT (R268) -/

/-- Taking up an action list leaves STATE or gives it a value that the list writes. -/
theorem settle_life (l : List Item) (s : State) : (settle l s).life = s.life ∨ .setState (settle l s).life ∈ l := by
  induction l generalizing s with
  | nil => exact .inl rfl
  | cons i r ih =>
    cases i with
    | setState x =>
      rcases ih { s with life := x } with e | hmem
      · exact .inr (List.mem_cons.mpr (.inl (congrArg Item.setState e)))
      · exact .inr (List.mem_cons_of_mem _ hmem)
    | setLutMode m => exact (ih { s with lutMode := m }).imp_right (List.mem_cons_of_mem _)
    | _ => exact .inl rfl

/-- No action list writes FAULT (R201). -/
theorem fault_notMem_planOf (op : BitVec 4) (s : State) (hop : legalOp op = true) :
    .setState .fault ∉ planOf op s := by
  induction op, hop using legalOp_cases with
  | displayPartial =>
    simp only [planOf_displayPartial, displayPartialPlan, partialLoad, partialSetup]
    split <;> split <;>
      simp [shortResetPulse, setLutProc, activateProc, fullWindowProc, setWindowProc, setCursorProc, writeImageProc]
  | _ =>
    simp [resetPlan, initPlan, resetSeq, hwResetPulse, configureProc, fullWindowProc, setWindowPlan, setWindowProc,
      setCursorPlan, setCursorProc, setLutPlan, setLutProc, displayPlan, displayBasePlan, writeImageProc, activateProc,
      clearPlan, fillProc, sleepPlan]

theorem settle_ne_fault {l : List Item} {s : State} (hs : s.life ≠ .fault) (hl : .setState .fault ∉ l) :
    (settle l s).life ≠ .fault := by
  intro hfault
  rcases settle_life l s with e | hmem
  · exact hs (e.symm.trans hfault)
  · exact hl (hfault ▸ hmem)

theorem acceptCommand_ne_fault (op : BitVec 4) {s : State} (hs : s.life ≠ .fault) :
    (acceptCommand op (planOf op) s).life ≠ .fault := by
  rcases acceptCommand_cases op (planOf op) s with ⟨-, e⟩ | ⟨-, r, -, -, e⟩ | ⟨-, hlegal, -, e⟩ <;> rw [e]
  · exact hs
  · exact hs
  · exact settle_ne_fault hs (fault_notMem_planOf op _ hlegal)

/-- The sequencer's action takes STATE to FAULT by an abort only. -/
theorem sequencerAction_fault {s t : State} (hrun : RunningOk s) (hs : s.life ≠ .fault) (h : sequencerAction s = .next t)
    (hfault : t.life = .fault) :
    t.active = false ∧ t.done = true ∧ t.lutMode = s.lutMode
      ∧ (t.result = .transportError ∨ (t.result = .hardwareTimeout ∧ s.cfg.busyTimeoutPolls ≠ none)) := by
  cases sequencerAction_acted h with
  | stays _ hpoint =>
    obtain ⟨-, -, -, -, -, -, hlife, -⟩ := hpoint
    exact absurd (hlife.symm.trans hfault) hs
  | frame w _ _ _ hw =>
    obtain ⟨-, -, -, -, -, -, hlife, -⟩ := hw
    exact absurd (hlife.symm.trans hfault) hs
  | finishes w i r hw _ htodo =>
    obtain ⟨-, -, -, -, htodo', -, hlife, -⟩ := hw
    obtain ⟨-, hlegal, -, hsuffix, -⟩ := hrun
    refine absurd hfault (settle_ne_fault (hlife.trans_ne hs) fun hmem => fault_notMem_planOf s.lOp s hlegal ?_)
    rw [htodo'] at hmem
    exact hsuffix.subset (List.mem_of_mem_tail hmem)
  | aborts w e hw _ hcode =>
    obtain ⟨-, -, -, -, -, -, -, hmode, -⟩ := hw
    exact ⟨rfl, rfl, hmode, hcode⟩

/-- Settles O48: no action list writes FAULT, so an abort does. -/
theorem faultOnlyByAbort : Obligations.FaultOnlyByAbort := by
  intro s t hinv h hfault hs
  obtain ⟨-, ⟨-, rfl⟩ | ⟨-, u, v, hu, hv, rfl⟩⟩ := step_cases s t h
  · exact nomatch hfault
  · have hu_ne : u.life ≠ .fault := by
      rcases hostPhase_sequencer hu with ⟨⟨-, -, -, -, -, -, -, -, -, hlife, -⟩, -⟩ | ⟨-, a, -, -, -, rfl⟩
      · exact hlife.trans_ne hs
      · exact acceptCommand_ne_fault _ hs
    cases hactive : s.active with
    | false =>
      rw [hactive] at hv
      obtain rfl := sequencerPhase_idle hv
      exact absurd hfault hu_ne
    | true =>
      have hinv' := hostPhase_inv (takeInput_inv hinv) hu
      obtain ⟨⟨hact, -, -, -, -, -, -, -, -, -, hmode, -⟩, -⟩ := hostPhase_running (s := s.takeInput) hactive hu
      rcases sequencerPhase_cases hv with hv | rfl
      · obtain ⟨hidle, hdone, hmode', hcode⟩ := sequencerAction_fault (hinv'.running (hact.trans hactive)) hu_ne hv hfault
        obtain ⟨⟨hcfg, -⟩, -⟩ := hostPhase_outside hu
        refine ⟨rfl, hidle, hdone, hcode.imp_right And.left, hmode'.trans hmode, fun htimeout => ?_⟩
        rcases hcode with herr | ⟨-, hlimit⟩
        · exact nomatch htimeout.symm.trans herr
        · exact hcfg ▸ hlimit
      · exact absurd hfault hu_ne

end Sys2Proof.Machine
end

section
/-! PROOFS. In a quiet environment the machine of single actions refines the action lists (R48, R202, R204): each entry of a list
runs to its end and sends its trace, so that a whole operation does. -/

namespace Sys2Proof.Machine

/-! ### A quiet clock -/

/-- `t` is reached from `s` in some number of clocks. -/
def Reaches : State → State → Prop := Relation.ReflTransGen fun s t => step s = .next t

theorem run_succ_of_step {M : Host.Core} {s t : M.State} (h : M.step s = .next t) (n : Nat) :
    M.run (n + 1) s = M.run n t := by
  simp only [Host.Core.run, h]

theorem Reaches.run {s t : State} (h : Reaches s t) : ∃ n, Host.Core.run Sys2Proof.core n s = .next t := by
  induction h using Relation.ReflTransGen.head_induction_on with
  | refl => exact ⟨0, rfl⟩
  | head hstep _ ih =>
    obtain ⟨n, hn⟩ := ih
    exact ⟨n + 1, (run_succ_of_step (M := Sys2Proof.core) hstep n).trans hn⟩

/-- A quiet environment, legal parameters and a full synchroniser: a clock changes nothing but by the sequencer. -/
structure Calm (s : State) : Prop where
  quiet : Quiet s
  valid : s.cfg.valid = true
  sync_length : s.sync.length = s.cfg.busySyncStages

theorem Calm.of_kept {s t : State} (h : Calm s) (hk : Kept s t) : Calm t := by
  obtain ⟨-, -, ⟨hcfg, -, -, hin, hrst, hbusy, htx, hsync, -⟩, -⟩ := hk
  obtain ⟨⟨hin', hrst', htx', hbusy', hsync'⟩, hvalid, hlen⟩ := h
  exact ⟨⟨hin.trans hin', hrst.trans hrst', htx.trans htx', hbusy.trans hbusy', hsync ▸ hsync'⟩, hcfg ▸ hvalid,
    by rw [hsync, hcfg, hlen]⟩

theorem Calm.takeInput {s : State} (h : Calm s) : s.takeInput = s := by
  have hin : s.inputs = [] := h.quiet.inputs
  cases s
  simp_all [State.takeInput, State.nextInput, Memory.writes]

theorem Calm.shiftSync {s : State} (h : Calm s) : shiftSync s = s := by
  have hsync : s.sync = List.replicate s.cfg.busySyncStages false :=
    List.eq_replicate_iff.mpr ⟨h.sync_length, h.quiet.sync⟩
  have hbusy : s.busyI = false := h.quiet.busyI
  have hshift : (s.busyI :: s.sync).take s.cfg.busySyncStages = s.sync := by
    rw [hbusy, hsync, ← List.replicate_succ, List.take_replicate, Nat.min_eq_left (Nat.le_succ _)]
  unfold Machine.shiftSync
  rw [hshift]

theorem Calm.busySync {s : State} (h : Calm s) : s.busySync = false := by
  unfold State.busySync
  rw [List.getLastD_eq_getLast?]
  cases hl : s.sync.getLast? with
  | none => exact h.quiet.busyI
  | some b => exact h.quiet.sync b (List.mem_of_getLast? hl)

/-- A quiet clock of a running operation is the sequencer's action. -/
theorem Calm.step {s t : State} (h : Calm s) (hactive : s.active = true) (hseq : sequencerAction s = .next t) :
    step s = .next t := by
  have hin : s.nextInput = s.quietInput := by
    simp [State.nextInput, State.quietInput, h.quiet.inputs, h.quiet.rstN]
  have hshift := (h.of_kept (sequencerAction_kept s t hseq)).shiftSync
  simp [Machine.step, clock, runClock, h.valid, hin, State.quietInput, h.takeInput, hostPhase, andThen, sequencerPhase,
    hactive, hseq, hshift]

/-! ### One entry of an action list -/

/-- `w` is `s` with the events `tr` and the image reads `rd` more, and rst_o at `v`: registers, latched copies, what is outside
the block, STATE, LUT_MODE and the current action are as before. -/
structure Sent (tr : List LineEvent) (rd : List Word) (v : Bool) (s w : State) : Prop where
  kept : Kept s w
  active : w.active = s.active
  todo : w.todo = s.todo
  life : w.life = s.life
  lutMode : w.lutMode = s.lutMode
  log : w.log = tr.reverse ++ s.log
  imgReads : w.imgReads = rd.reverse ++ s.imgReads
  rstO : w.lines.rstO = v

theorem Sent.trans {tr tr' : List LineEvent} {rd rd' : List Word} {v v' : Bool} {s w u : State}
    (h : Sent tr rd v s w) (h' : Sent tr' rd' v' w u) : Sent (tr ++ tr') (rd ++ rd') v' s u where
  kept := h.kept.trans h'.kept
  active := h'.active.trans h.active
  todo := h'.todo.trans h.todo
  life := h'.life.trans h.life
  lutMode := h'.lutMode.trans h.lutMode
  log := by rw [h'.log, h.log, List.reverse_append, List.append_assoc]
  imgReads := by rw [h'.imgReads, h.imgReads, List.reverse_append, List.append_assoc]
  rstO := h'.rstO

/-- The level of rst_o after an entry of an action list (R143). -/
def Item.rstAfter (v : Bool) : Item → Bool
  | .rst v' => v'
  | _ => v

/-- STATE after an entry of an action list. -/
def Item.lifeAfter (x : LifeState) : Item → LifeState
  | .setState y => y
  | _ => x

/-- LUT_MODE after an entry of an action list. -/
def Item.lutAfter (m : Lut) : Item → Lut
  | .setLutMode t => t
  | _ => m

/-- The entry is no command, or its byte is one of the table (R95, R190). -/
def Item.known (p : Params) : Item → Bool
  | .cmd b _ => (commandOf b).isSome || b == p.partialOptCmd
  | _ => true

/-- The sequencer of a quiet block is about to begin an action. -/
structure Ready (s : State) : Prop where
  calm : Calm s
  active : s.active = true
  frameIdx : s.frameIdx = 0
  waiting : s.waiting = false
  delayOn : s.delayOn = false

theorem rst_runs {s : State} {v : Bool} {r : List Item} (h : Ready s) (htodo : s.todo = .rst v :: r) :
    ∃ w, Reaches s (finishAction w) ∧ Sent [.rst v] [] v s w := by
  have hseq : sequencerAction s = .next (rstAction v s) := by simp [sequencerAction, htodo]
  exact ⟨_, .single (h.calm.step h.active hseq), Kept.refl s, rfl, rfl, rfl, rfl, rfl, rfl, rfl⟩

theorem busyWait_runs {s : State} {r : List Item} (h : Ready s) (htodo : s.todo = .busyWait :: r) :
    ∃ w, Reaches s (finishAction w) ∧ Sent [.poll false] [] s.lines.rstO s w := by
  have hseq : sequencerAction s = .next (finishAction (emit (.poll false) { s with polls := 0 })) := by
    simp [sequencerAction, htodo, busyWaitAction, h.delayOn, h.waiting, h.calm.busySync]
  exact ⟨_, .single (h.calm.step h.active hseq), Kept.refl s, rfl, rfl, rfl, rfl, rfl, rfl, rfl⟩

theorem sequencerAction_delay {s : State} {ms : Nat} {r : List Item} (htodo : s.todo = .delay ms :: r) :
    sequencerAction s = .next (delayAction ms s) := by
  simp [sequencerAction, htodo]

/-- A delay timer that runs counts down to its end. -/
theorem delayTimer_runs {s : State} {ms : Nat} {r : List Item} (hcalm : Calm s) (hactive : s.active = true)
    (htodo : s.todo = .delay ms :: r) (hon : s.delayOn = true) :
    Reaches s (finishAction (emit (.delay ms) { s with delayOn := false, delayCnt := 0 })) := by
  have hstep : step s = .next (delayAction ms s) := hcalm.step hactive (sequencerAction_delay htodo)
  induction hk : s.delayCnt generalizing s with
  | zero =>
    refine .single (hstep.trans (congrArg _ ?_))
    rw [← hk]
    simp [delayAction, delayTick, hon, hk]
  | succ k ih =>
    have htick : delayAction ms s = { s with delayCnt := k } := by
      simp [delayAction, delayTick, hon, hk]
    rw [htick] at hstep
    have hcalm' : Calm { s with delayCnt := k } := hcalm.of_kept (Kept.refl s)
    exact .head hstep (ih hcalm' hactive htodo hon (hcalm'.step hactive (sequencerAction_delay htodo)) rfl)

theorem delay_runs {s : State} {ms : Nat} {r : List Item} (h : Ready s) (htodo : s.todo = .delay ms :: r) :
    ∃ w, Reaches s (finishAction w) ∧ Sent [.delay ms] [] s.lines.rstO s w := by
  have hload : delayAction ms s = { s with delayOn := true, delayCnt := delayClocks s.cfg ms } := by
    simp [delayAction, delayTick, h.delayOn]
  have hstep := h.calm.step h.active (sequencerAction_delay htodo)
  rw [hload] at hstep
  have hcalm : Calm { s with delayOn := true, delayCnt := delayClocks s.cfg ms } := h.calm.of_kept (Kept.refl s)
  exact ⟨_, .head hstep (delayTimer_runs hcalm h.active htodo rfl), Kept.refl s, rfl, rfl, rfl, rfl, rfl, rfl, rfl⟩

/-! ### A panel command -/

/-- The addresses that data frame `n` of a command reads. -/
def frameReads (s : State) (d : FrameData) (n : Nat) : List Word :=
  match d with
  | .image => [imageAddr s.lImgBase (imageIndex s.cfg n)]
  | _ => []

theorem dataTrace_eq_frames (s : State) (d : FrameData) :
    dataTrace s d = (List.range (d.count s.cfg)).map fun n => .frame .data (dataFrame d n s).1 := by
  cases d with
  | each bs =>
    refine List.ext_getElem (by simp [dataTrace, FrameData.count]) fun n h _ => ?_
    have hn : n < bs.length := by simpa [dataTrace] using h
    simp [dataTrace, dataFrame, hn]
  | bulk bs => rfl
  | image => rfl
  | fill c => simp [dataTrace, dataFrame, FrameData.count]

theorem dataReads_eq_frames (s : State) (d : FrameData) :
    dataReads s d = (List.range (d.count s.cfg)).flatMap (frameReads s d) := by
  cases d with
  | image => exact List.map_eq_flatMap
  | _ => simp [dataReads, frameReads]

/-- What an action list sends and reads is a function of the parameters, the image memory and the latched copies. -/
theorem dataTrace_congr {s t : State} (h : Kept s t) (d : FrameData) :
    dataTrace t d = dataTrace s d ∧ dataReads t d = dataReads s d := by
  obtain ⟨-, ⟨-, -, -, -, -, -, hbase, -⟩, ⟨hcfg, hmem, -⟩, -⟩ := h
  cases d <;> simp [dataTrace, dataReads, hcfg, hmem, hbase]

theorem itemTrace_congr {s t : State} (h : Kept s t) (i : Item) :
    itemTrace t i = itemTrace s i ∧ itemReads t i = itemReads s i := by
  cases i with
  | cmd b a =>
    obtain ⟨htrace, hreads⟩ := dataTrace_congr h (commandData s.cfg b a)
    simp only [itemTrace, itemReads, h.cfg, htrace, hreads, and_self]
  | _ => exact ⟨rfl, rfl⟩

theorem planTrace_congr {s t : State} (h : Kept s t) (l : List Item) :
    planTrace t l = planTrace s l ∧ planReads t l = planReads s l := by
  have htrace : itemTrace t = itemTrace s := funext fun i => (itemTrace_congr h i).1
  have hreads : itemReads t = itemReads s := funext fun i => (itemTrace_congr h i).2
  simp only [planTrace, planReads, htrace, hreads, and_self]

theorem frame_congr {s t : State} (h : Kept s t) (d : FrameData) (n : Nat) :
    (dataFrame d n t).1 = (dataFrame d n s).1 ∧ frameReads t d n = frameReads s d n := by
  obtain ⟨-, ⟨-, -, -, -, -, -, hbase, -⟩, ⟨hcfg, hmem, -⟩, -⟩ := h
  cases d <;> simp [dataFrame, frameReads, hcfg, hmem, hbase]

/-- The state after the frame that follows a frame of `s`: data frame `n`. -/
def sendData (d : FrameData) (n : Nat) (s : State) : State :=
  emitFrame .data (dataFrame d n s).1 (dataFrame d n (nextFrame s)).2

theorem nextFrame_sent (s : State) : Sent [] [] s.lines.rstO s (nextFrame s) :=
  ⟨Kept.refl s, rfl, rfl, rfl, rfl, rfl, rfl, rfl⟩

theorem imageRead_sent (addr : Word) (s : State) : Sent [] [addr] s.lines.rstO s (imageRead addr s).2 :=
  ⟨imageRead_kept addr s, rfl, rfl, rfl, rfl, rfl, rfl, rfl⟩

theorem emitFrame_sent (k : FrameKind) (bs : List Byte) (s : State) :
    Sent [.frame k bs] [] s.lines.rstO s (emitFrame k bs s) :=
  ⟨emitFrame_kept k bs s, rfl, rfl, rfl, rfl, rfl, rfl, rfl⟩

theorem dataFrame_sent (d : FrameData) (n : Nat) (s : State) :
    Sent [] (frameReads s d n) s.lines.rstO s (dataFrame d n s).2 := by
  cases d with
  | image => exact imageRead_sent _ s
  | _ => exact ⟨Kept.refl s, rfl, rfl, rfl, rfl, rfl, rfl, rfl⟩

theorem sendData_sent (d : FrameData) (n : Nat) (s : State) :
    Sent [.frame .data (dataFrame d n s).1] (frameReads s d n) s.lines.rstO s (sendData d n s) := by
  have hdata := dataFrame_sent d n (nextFrame s)
  have hall := ((nextFrame_sent s).trans hdata).trans (emitFrame_sent .data (dataFrame d n s).1 _)
  rw [hdata.rstO, (frame_congr (nextFrame_sent s).kept d n).2] at hall
  simp only [List.nil_append, List.append_nil] at hall
  exact hall

theorem sendData_frameIdx (d : FrameData) (n : Nat) (s : State) : (sendData d n s).frameIdx = s.frameIdx + 1 := by
  cases d <;> rfl

theorem sequencerAction_cmd {s : State} {b : Byte} {a : Args} {r : List Item} {i : Instr} (htodo : s.todo = .cmd b a :: r)
    (hi : decode s.cfg.partialOptCmd (.commandByte b) = .ok i) :
    sequencerAction s = sendCommand b (commandData s.cfg b a) s := by
  rcases sequencerAction_cases s with ⟨v, r', e, -⟩ | ⟨ms, r', e, -⟩ | ⟨r', e, -⟩ | ⟨b', a', r', j, e, hj, hexec, hsend⟩
    | ⟨b', a', r', x, e, hx, -⟩ | ⟨hhead, -⟩
  · simp [htodo] at e
  · simp [htodo] at e
  · simp [htodo] at e
  · obtain ⟨⟨rfl, rfl⟩, rfl⟩ : (b = b' ∧ a = a') ∧ r = r' := by simpa [htodo] using e
    rw [hexec, hsend, commandData_of_decode a hj]
  · obtain ⟨⟨rfl, rfl⟩, rfl⟩ : (b = b' ∧ a = a') ∧ r = r' := by simpa [htodo] using e
    simp [hi] at hx
  · simp [htodo] at hhead

/-- A quiet clock with a data frame due. -/
theorem sendData_step {s : State} {b : Byte} {a : Args} {r : List Item} {i : Instr} (hcalm : Calm s)
    (hactive : s.active = true) (htodo : s.todo = .cmd b a :: r)
    (hi : decode s.cfg.partialOptCmd (.commandByte b) = .ok i)
    (hlt : s.frameIdx < (commandData s.cfg b a).count s.cfg) :
    step (nextFrame s) = .next
      (afterFrame ((commandData s.cfg b a).count s.cfg) (sendData (commandData s.cfg b a) s.frameIdx s)) := by
  have hcalm' : Calm (nextFrame s) := hcalm.of_kept (Kept.refl s)
  refine hcalm'.step hactive ?_
  rw [sequencerAction_cmd (s := nextFrame s) htodo hi]
  have hle : s.frameIdx + 1 ≤ (commandData s.cfg b a).count s.cfg := hlt
  rw [sendData, ← (frame_congr (nextFrame_sent s).kept _ _).1]
  simp [sendCommand, nextFrame, hle]

/-- When a frame of a command has been sent, its last `k` data frames follow, one a clock. -/
theorem dataFrames_run {b : Byte} {a : Args} {r : List Item} {i : Instr} (d : FrameData) (k : Nat) (s : State)
    (hcalm : Calm s) (hactive : s.active = true) (htodo : s.todo = .cmd b a :: r)
    (hi : decode s.cfg.partialOptCmd (.commandByte b) = .ok i) (hd : commandData s.cfg b a = d)
    (hk : s.frameIdx + k = d.count s.cfg) :
    ∃ w, Reaches (afterFrame (d.count s.cfg) s) (finishAction w)
      ∧ Sent ((List.range' s.frameIdx k).map fun n => .frame .data (dataFrame d n s).1)
        ((List.range' s.frameIdx k).flatMap (frameReads s d)) s.lines.rstO s w := by
  induction k generalizing s with
  | zero =>
    have hlast : afterFrame (d.count s.cfg) s = finishAction s := by
      simp [afterFrame, hcalm.quiet.txErrI, ← hk]
    exact ⟨s, hlast ▸ .refl, Kept.refl s, rfl, rfl, rfl, rfl, rfl, rfl, rfl⟩
  | succ k ih =>
    have hnext : afterFrame (d.count s.cfg) s = nextFrame s := by
      simp [afterFrame, hcalm.quiet.txErrI, ← hk, nextFrame]
    have hstep := sendData_step hcalm hactive htodo hi (by rw [hd]; omega)
    rw [hd] at hstep
    have hsent := sendData_sent d s.frameIdx s
    have hidx := sendData_frameIdx d s.frameIdx s
    have hcfg := hsent.kept.cfg
    obtain ⟨w, hreach, hrest⟩ := ih (sendData d s.frameIdx s) (hcalm.of_kept hsent.kept) (hsent.active.trans hactive)
      (hsent.todo.trans htodo) (hcfg ▸ hi) (hcfg ▸ hd) (by rw [hidx, hcfg, ← hk]; omega)
    rw [hcfg] at hreach
    refine ⟨w, hnext ▸ .head hstep hreach, ?_⟩
    rw [hidx, funext fun n => congrArg _ (frame_congr hsent.kept d n).1,
      funext fun n => (frame_congr hsent.kept d n).2, hsent.rstO] at hrest
    exact hsent.trans hrest

theorem cmd_runs {s : State} {b : Byte} {a : Args} {r : List Item} {i : Instr} (h : Ready s)
    (htodo : s.todo = .cmd b a :: r) (hi : decode s.cfg.partialOptCmd (.commandByte b) = .ok i) :
    ∃ w, Reaches s (finishAction w) ∧ Sent (itemTrace s (.cmd b a)) (itemReads s (.cmd b a)) s.lines.rstO s w := by
  have hstep : step s = .next (afterFrame ((commandData s.cfg b a).count s.cfg) (emitFrame .cmd [b] s)) := by
    refine h.calm.step h.active ?_
    rw [sequencerAction_cmd htodo hi]
    simp [sendCommand, h.frameIdx]
  have hcmd := emitFrame_sent .cmd [b] s
  obtain ⟨w, hreach, hdata⟩ := dataFrames_run (commandData s.cfg b a) _ (emitFrame .cmd [b] s)
    (h.calm.of_kept hcmd.kept) h.active htodo hi rfl (by rw [emitFrame_frameIdx, h.frameIdx]; exact Nat.zero_add _)
  refine ⟨w, .head hstep hreach, ?_⟩
  have hall := hcmd.trans hdata
  rw [emitFrame_frameIdx, h.frameIdx, ← List.range_eq_range', ← dataTrace_eq_frames, ← dataReads_eq_frames,
    (dataTrace_congr hcmd.kept _).1, (dataTrace_congr hcmd.kept _).2] at hall
  exact hall

theorem decode_of_known {p : Params} (hp : p.valid = true) {b : Byte}
    (hb : ((commandOf b).isSome || b == p.partialOptCmd) = true) :
    ∃ i, decode p.partialOptCmd (.commandByte b) = .ok i := by
  rcases (Bool.or_eq_true _ _).mp hb with hb | hb
  · obtain ⟨i, hi⟩ := Option.isSome_iff_exists.mp hb
    exact ⟨i, by simp [decode, hi]⟩
  · obtain rfl := eq_of_beq hb
    exact ⟨_, decode_partialOptCmd hp⟩

/-- Each action of a list runs to its end in a quiet environment, and sends its trace. -/
theorem action_runs {s : State} {i : Item} {r : List Item} (h : Ready s) (htodo : s.todo = i :: r)
    (hi : i.isAction = true) (hknown : i.known s.cfg = true) :
    ∃ w, Reaches s (finishAction w) ∧ Sent (itemTrace s i) (itemReads s i) (i.rstAfter s.lines.rstO) s w := by
  cases i with
  | rst v => exact rst_runs h htodo
  | delay ms => exact delay_runs h htodo
  | busyWait => exact busyWait_runs h htodo
  | cmd b a =>
    obtain ⟨i, hdec⟩ := decode_of_known h.calm.valid hknown
    exact cmd_runs h htodo hdec
  | setState x => cases hi
  | setLutMode t => cases hi

/-! ### A whole action list -/

/-- `t` is the end of the operation that `s` has the action list `l` left of. -/
structure Ended (l : List Item) (s t : State) : Prop where
  kept : Kept s t
  active : t.active = false
  done : t.done = true
  result : t.result = .ok
  life : t.life = l.foldl Item.lifeAfter s.life
  lutMode : t.lutMode = l.foldl Item.lutAfter s.lutMode
  rstO : t.lines.rstO = l.foldl Item.rstAfter s.lines.rstO
  log : t.log = (planTrace s l).reverse ++ s.log
  imgReads : t.imgReads = (planReads s l).reverse ++ s.imgReads

/-- The end of an action list is the end of its rest, from a state `u` after its first entry. -/
theorem Ended.cons {i : Item} {r : List Item} {s u t : State} (hend : Ended r u t) (hkept : Kept s u)
    (hlife : u.life = i.lifeAfter s.life) (hmode : u.lutMode = i.lutAfter s.lutMode)
    (hrst : u.lines.rstO = i.rstAfter s.lines.rstO) (hlog : u.log = (itemTrace s i).reverse ++ s.log)
    (hreads : u.imgReads = (itemReads s i).reverse ++ s.imgReads) : Ended (i :: r) s t := by
  obtain ⟨htrace, hreadsr⟩ := planTrace_congr hkept r
  refine ⟨hkept.trans hend.kept, hend.active, hend.done, hend.result, ?_, ?_, ?_, ?_, ?_⟩
  · rw [hend.life, hlife, List.foldl_cons]
  · rw [hend.lutMode, hmode, List.foldl_cons]
  · rw [hend.rstO, hrst, List.foldl_cons]
  · rw [hend.log, hlog, htrace, planTrace, planTrace, List.flatMap_cons, List.reverse_append, List.append_assoc]
  · rw [hend.imgReads, hreads, hreadsr, planReads, planReads, List.flatMap_cons, List.reverse_append, List.append_assoc]

/-- In a quiet environment an action list runs to its end and sends its trace. -/
theorem settle_runs (l : List Item) (s : State) (h : Ready s) (hknown : l.all (Item.known s.cfg) = true) :
    ∃ t, Reaches (settle l s) t ∧ Ended l s t := by
  induction l generalizing s with
  | nil => exact ⟨_, .refl, Kept.refl s, rfl, rfl, rfl, rfl, rfl, rfl, rfl, rfl⟩
  | cons i r ih =>
    obtain ⟨hi, hr⟩ := (Bool.and_eq_true _ _).mp (List.all_cons.symm.trans hknown)
    have hcalm (u : State) (hu : Kept s u) : Calm u := h.calm.of_kept hu
    have atAction (haction : i.isAction = true) (hlife : i.lifeAfter s.life = s.life)
        (hmode : i.lutAfter s.lutMode = s.lutMode) : ∃ t, Reaches (settle (i :: r) s) t ∧ Ended (i :: r) s t := by
      have hready : Ready { s with todo := i :: r } :=
        ⟨hcalm _ (Kept.refl s), h.active, h.frameIdx, h.waiting, h.delayOn⟩
      obtain ⟨w, hreach, hsent⟩ := action_runs hready rfl haction hi
      have hkept : Kept s w := hsent.kept
      obtain ⟨htrace, hreads⟩ := itemTrace_congr (s := s) (t := { s with todo := i :: r }) (Kept.refl s) i
      obtain ⟨t, hreach', hend⟩ :=
        ih { w with stepNo := w.stepNo + 1, frameIdx := 0, waiting := false, delayOn := false }
          ⟨hcalm _ hkept, hsent.active.trans h.active, rfl, rfl, rfl⟩ (hkept.cfg ▸ hr)
      have hfinish : finishAction w =
          settle r { w with stepNo := w.stepNo + 1, frameIdx := 0, waiting := false, delayOn := false } := by
        rw [finishAction, hsent.todo]
        rfl
      rw [settle_action i r s haction]
      exact ⟨t, hreach.trans (hfinish ▸ hreach'), hend.cons hkept (hsent.life.trans hlife.symm)
        (hsent.lutMode.trans hmode.symm) hsent.rstO
        (hsent.log.trans (congrArg (·.reverse ++ s.log) htrace))
        (hsent.imgReads.trans (congrArg (·.reverse ++ s.imgReads) hreads))⟩
    cases i with
    | setState x =>
      obtain ⟨t, hreach, hend⟩ :=
        ih { s with life := x } ⟨hcalm _ (Kept.refl s), h.active, h.frameIdx, h.waiting, h.delayOn⟩ hr
      exact ⟨t, hreach, hend.cons (Kept.refl s) rfl rfl rfl rfl rfl⟩
    | setLutMode m =>
      obtain ⟨t, hreach, hend⟩ :=
        ih { s with lutMode := m } ⟨hcalm _ (Kept.refl s), h.active, h.frameIdx, h.waiting, h.delayOn⟩ hr
      exact ⟨t, hreach, hend.cons (Kept.refl s) rfl rfl rfl rfl rfl⟩
    | _ => exact atAction rfl rfl rfl

/-! ### The ten operations -/

/-- Every command of an action list is one of the table (R95). -/
theorem planOf_known (op : BitVec 4) (s : State) (hop : legalOp op = true) :
    (planOf op s).all (Item.known s.cfg) = true := by
  induction op, hop using legalOp_cases with
  | displayPartial =>
    have hload : (partialLoad s.cfg).all (Item.known s.cfg) = true := by
      unfold partialLoad
      split <;> rfl
    have hsetup : (partialSetup s.cfg).all (Item.known s.cfg) = true := by
      unfold partialSetup
      split <;> simp [Item.known, commandOf]
    simp only [planOf_displayPartial, displayPartialPlan, List.all_cons, List.all_append, hload, hsetup]
    rfl
  | _ => rfl

/-- STATE, LUT_MODE and rst_o after the action list of an operation that `s` starts (R201, R204). -/
theorem planOf_after {op : BitVec 4} {i : Instr} (hi : hostOpOf op = some i) (s : State) :
    (planOf op (latch op s)).foldl Item.lifeAfter s.life = lifeAtEnd i s.life
      ∧ (planOf op (latch op s)).foldl Item.lutAfter s.lutMode = lutModeAtEnd i s
      ∧ (planOf op (latch op s)).foldl Item.rstAfter s.lines.rstO = rstAtEnd i s := by
  have hop : legalOp op = true := by simp [legalOp, hi]
  induction op, hop using legalOp_cases <;> cases hi
  case displayPartial =>
    have hload : (∀ x, (partialLoad s.cfg).foldl Item.lifeAfter x = x)
        ∧ (∀ m, (partialLoad s.cfg).foldl Item.lutAfter m = .part)
        ∧ ∀ v, (partialLoad s.cfg).foldl Item.rstAfter v = true := by
      unfold partialLoad
      split <;> exact ⟨fun _ => rfl, fun _ => rfl, fun _ => rfl⟩
    have hsetup : (∀ x, (partialSetup s.cfg).foldl Item.lifeAfter x = x)
        ∧ (∀ m, (partialSetup s.cfg).foldl Item.lutAfter m = m)
        ∧ ∀ v, (partialSetup s.cfg).foldl Item.rstAfter v = v := by
      unfold partialSetup
      split <;> exact ⟨fun _ => rfl, fun _ => rfl, fun _ => rfl⟩
    simp only [planOf_displayPartial, displayPartialPlan, latch_cfg, List.foldl_cons, List.foldl_append, hload, hsetup]
    exact ⟨rfl, rfl, rfl⟩
  all_goals exact ⟨rfl, rfl, rfl⟩

/-- Settles O53: taking up the action list leads, entry by entry, to the end of the operation. -/
theorem operationSendsItsTrace : Obligations.OperationSendsItsTrace := by
  intro op i s hinv hquiet hi hstart hlen
  have hop : legalOp op = true := by simp [legalOp, hi]
  have hcalm : Calm (latch op s) :=
    ⟨⟨hquiet.inputs, hquiet.rstN, hquiet.txErrI, hquiet.busyI, hquiet.sync⟩, hinv.cfg_valid, hinv.sync_length⟩
  have hexec := exec_hostOp op i hi s
  rw [acceptCommand_starts hi hstart hlen] at hexec
  have hkept := settle_kept (planOf op (latch op s)) (latch op s)
  obtain ⟨t, hreach, hend⟩ := settle_runs (planOf op (latch op s)) (latch op s) ⟨hcalm, rfl, rfl, rfl, rfl⟩
    (planOf_known op _ hop)
  obtain ⟨n, hn⟩ := hreach.run
  obtain ⟨hlife, hmode, hrst⟩ := planOf_after hi s
  obtain ⟨htrace, hreads⟩ := planTrace_congr hkept (planOf op (latch op s))
  have hplan := planOf_congr op hkept.cfg hkept.2.1
  obtain ⟨hregs, -⟩ := hend.kept
  refine ⟨_, n, t, hexec, hn, ?_, ?_, hend.active, hend.done, hend.result, hend.life.trans hlife, hend.lutMode.trans hmode,
    hend.rstO.trans hrst, hregs, hend.kept.mem, hend.kept.cfg⟩
  · rw [hplan, htrace, State.trace, hend.log, List.reverse_append, List.reverse_reverse]
    rfl
  · rw [hplan, hreads, hend.imgReads, List.reverse_append, List.reverse_reverse]
    rfl

end Sys2Proof.Machine
end

section
/-! PROOFS. The host's accesses and the image reads (R71, R72, R80): which accesses a clock refuses, what one frame of a panel
command leaves alone, the frames of an image, and that no other state of the invariant stops. -/

namespace Sys2Proof

theorem Access.wf_iff (p : Params) (a : Access) :
    a.wf p = true ↔ a.size = .word ∧ (a.addr - p.regBase).toNat % 4 = 0 ∧ (a.addr - p.regBase).toNat < 0x40 := by
  simp only [Access.wf, Bool.and_eq_true, beq_iff_eq, decide_eq_true_eq, and_assoc]
  rfl

end Sys2Proof

namespace Sys2Proof.Machine

/-! ### Host accesses (R72) -/

theorem hostAccess_refused {a : Access} {s : State} (h : a.wf s.cfg = false) :
    hostAccess a s = .refused .undefinedAccess := by
  simp [hostAccess, h]

theorem hostAccess_answers {a : Access} {s : State} (h : a.wf s.cfg = true) : ∃ t, hostAccess a s = .next t := by
  rcases hostAccess_cases a s with ⟨hwf, -⟩ | ⟨-, -, e⟩ | ⟨-, -, -, e⟩ | ⟨-, -, -, e⟩
  · simp [h] at hwf
  · exact ⟨_, e⟩
  · exact ⟨_, e⟩
  · exact ⟨_, e⟩

theorem hostAccess_refused_iff (a : Access) (s : State) :
    hostAccess a s = .refused .undefinedAccess ↔ ¬ a.wf s.cfg = true := by
  refine ⟨fun h hwf => ?_, fun h => hostAccess_refused (Bool.eq_false_iff.mpr h)⟩
  obtain ⟨t, ht⟩ := hostAccess_answers hwf
  cases ht.symm.trans h

/-- Settles O11: the host's access is refused exactly where it does not meet `Access.wf`, which is the condition of R72. -/
theorem undefinedAccessRefused : Obligations.UndefinedAccessRefused := fun a s =>
  ⟨by rw [hostAccess_refused_iff, Access.wf_iff],
    fun hsize halign hlt => hostAccess_answers ((Access.wf_iff s.cfg a).mpr ⟨hsize, halign, hlt⟩)⟩

/-! ### One frame of a panel command -/

/-- The image reads of `t` are those of `s`, or one more. -/
def AddsRead (s t : State) : Prop := t.imgReads = s.imgReads ∨ ∃ a, t.imgReads = a :: s.imgReads

/-- `w` is `s` after one frame more: at the same place still, with one event more and at most one image read. -/
structure FrameSent (s w : State) : Prop where
  point : samePoint s w
  polls : w.polls = s.polls
  rstO : w.lines.rstO = s.lines.rstO
  log : ∃ k bs, w.log = .frame k bs :: s.log
  reads : AddsRead s w

theorem emitFrame_frameSent (k : FrameKind) (bs : List Byte) (s : State) : FrameSent s (emitFrame k bs s) :=
  ⟨emitFrame_samePoint k bs s, rfl, rfl, ⟨k, bs, rfl⟩, .inl rfl⟩

theorem emitFrame_imageRead_frameSent (k : FrameKind) (bs : List Byte) (addr : Word) (s : State) :
    FrameSent s (emitFrame k bs (imageRead addr s).2) :=
  ⟨(imageRead_samePoint addr s).trans (emitFrame_samePoint k bs _), rfl, rfl, ⟨k, bs, rfl⟩, .inr ⟨addr, rfl⟩⟩

/-- A panel command that goes on has sent one frame. -/
theorem sendCommand_frameSent {b : Byte} {d : FrameData} {s t : State} (h : sendCommand b d s = .next t) :
    ∃ w, FrameSent s w ∧ t = afterFrame (d.count s.cfg) w := by
  rcases sendCommand_cases b d s with ⟨-, e⟩ | ⟨-, -, e⟩ | ⟨-, e⟩ <;> rw [e] at h <;> cases h
  · exact ⟨_, emitFrame_frameSent .cmd [b] s, rfl⟩
  · refine ⟨_, ?_, rfl⟩
    rcases dataFrame_state d (s.frameIdx - 1) s with e | ⟨addr, e⟩ <;> rw [e]
    · exact emitFrame_frameSent _ _ s
    · exact emitFrame_imageRead_frameSent _ _ addr s

theorem afterFrame_polls (last : Nat) (s : State) : (afterFrame last s).polls = s.polls := by
  rcases afterFrame_cases last s with ⟨-, h⟩ | ⟨-, -, h⟩ | ⟨-, -, h⟩ <;> rw [h]
  · rfl
  · exact (finishAction_trace s).2

theorem isAction_of_actions_ne_zero {p : Params} {i : Item} (h : i.actions p ≠ 0) : i.isAction = true := by
  cases i with
  | setState x | setLutMode t => exact absurd rfl h
  | _ => rfl

/-- The end of an action that another follows. -/
theorem finishAction_action {s : State} {i : Item} {r : List Item} (htail : s.todo.tail = i :: r)
    (hi : i.isAction = true) : finishAction s =
      { s with stepNo := s.stepNo + 1, frameIdx := 0, waiting := false, delayOn := false, todo := i :: r } := by
  rw [finishAction, htail, settle_action i r _ hi]

/-- After a frame without a transport error, with a frame or another action next, STATUS and the running operation stay. -/
theorem afterFrame_goes_on {last : Nat} {s : State} (htx : s.txErrI = false)
    (hnext : s.frameIdx < last ∨ ∃ i r, s.todo.tail = i :: r ∧ i.isAction = true) :
    (afterFrame last s).life = s.life ∧ (afterFrame last s).lutMode = s.lutMode ∧ (afterFrame last s).result = s.result
      ∧ (afterFrame last s).done = s.done ∧ (afterFrame last s).active = s.active
      ∧ (afterFrame last s).opCur = s.opCur := by
  rcases afterFrame_cases last s with ⟨htx', -⟩ | ⟨-, -, h⟩ | ⟨-, hge, h⟩
  · simp [htx] at htx'
  · rw [h]
    exact ⟨rfl, rfl, rfl, rfl, rfl, rfl⟩
  · obtain ⟨i, r, htail, hi⟩ := hnext.resolve_left hge
    rw [h, finishAction_action htail hi]
    exact ⟨rfl, rfl, rfl, rfl, rfl, rfl⟩

/-- Settles O28: a panel command sends one frame, which leaves all but the trace, the image reads and the lines; and what
follows the frame is the next frame, the next action, or the end of the operation. -/
theorem panelCommandFrame : Obligations.PanelCommandFrame := by
  intro b i s t hi h
  rw [exec_command b i s hi] at h
  obtain ⟨hregs, hlatch, hout, hdropped⟩ := sendCommand_kept _ _ s t h
  obtain ⟨w, hw, rfl⟩ := sendCommand_frameSent h
  obtain ⟨hlog, -, hrst⟩ := afterFrame_log ((dataOf s.cfg s.args i).count s.cfg) w
  refine ⟨hregs, hlatch, hout, hdropped, (afterFrame_polls _ w).trans hw.polls, hrst.trans hw.rstO, ?_, fun htx hnext => ?_⟩
  · rw [hlog]
    exact hw.log
  · obtain ⟨⟨-, -, ⟨-, -, -, -, -, -, htxw, -⟩, -⟩, hact, hop, -, htodo, hidx, hlife, hmode, hresult, hdone⟩ := hw.point
    have hnextw : w.frameIdx < (dataOf s.cfg s.args i).count s.cfg
        ∨ ∃ x r, w.todo.tail = x :: r ∧ x.isAction = true := by
      rw [hidx, htodo]
      exact hnext.imp_right fun ⟨x, r, htail, hx⟩ => ⟨x, r, htail, isAction_of_actions_ne_zero hx⟩
    have hgoes := afterFrame_goes_on (htxw.trans htx) hnextw
    rwa [hlife, hmode, hresult, hdone, hact, hop] at hgoes

/-! ### The frames of an image (R71, R241) -/

theorem imageAddr_toNat (base : Word) (idx : Nat) : (imageAddr base idx).toNat = (base.toNat + idx) % 2 ^ 32 := by
  simp [imageAddr]

theorem exec_imageWrite {s : State} {b : Byte} {a : Args} {r : List Item} {i : Instr} {bank : Byte}
    (htodo : s.todo = .cmd b a :: r) (hsource : a.source = .image)
    (hi : (i = .writeRamBw ∧ bank = 0x24#8) ∨ (i = .writeRamRed ∧ bank = 0x26#8)) :
    exec i s = sendCommand bank .image s := by
  have hdata : ramData s.args = .image := by simp [State.args, htodo, ramData, hsource]
  rcases hi with ⟨rfl, rfl⟩ | ⟨rfl, rfl⟩
  · exact congrArg (sendCommand 0x24#8 · s) hdata
  · exact congrArg (sendCommand 0x26#8 · s) hdata

/-- Settles O27: data frame `k` is the frame of the byte at `imageAddr` of `imageIndex`, and the frame after it is due unless it
is the last of IMG_BYTES. -/
theorem imageCommandFrames : Obligations.ImageCommandFrames := by
  intro s b a r i bank htodo hsource hi hpos htx
  rw [exec_imageWrite htodo hsource hi]
  refine ⟨fun hidx => ?_, fun k hidx hk => ?_⟩
  · have hmore : 0 < s.cfg.imgBytes := hpos
    simp [sendCommand, hidx, afterFrame, htx, FrameData.count, hmore]
  · refine ⟨imageAddr s.lImgBase (imageIndex s.cfg k), _, imageAddr_toNat _ _, rfl, rfl, rfl, rfl, ?_⟩
    simp [sendCommand, hidx, afterFrame, htx, FrameData.count, Params.imgBytes, hk, dataFrame]

/-! ### At most one event and one image read a clock (R80, R125) -/

@[simp] theorem finishAction_imgReads (s : State) : (finishAction s).imgReads = s.imgReads := by
  obtain ⟨⟨-, hreads, -⟩, -⟩ := finishAction_trace s
  exact hreads

theorem delayTick_imgReads (ms : Nat) (atEnd : State → State) (s : State) (hend : ∀ u, (atEnd u).imgReads = u.imgReads) :
    (delayTick ms atEnd s).imgReads = s.imgReads := by
  rcases delayTick_cases ms atEnd s with ⟨-, h⟩ | ⟨-, -, h⟩ | ⟨-, -, h⟩
  · rw [h]
  · exact h ▸ hend _
  · rw [h]

theorem busyWaitAction_imgReads (s : State) : (busyWaitAction s).imgReads = s.imgReads := by
  rcases busyWaitAction_cases s with ⟨-, h⟩ | ⟨-, -, h⟩ | ⟨-, -, -, h⟩ | ⟨-, -, -, h⟩ <;> rw [h]
  · exact delayTick_imgReads _ id s fun _ => rfl
  · exact finishAction_imgReads _
  · rfl
  · rfl

/-- Only a frame reads image memory, and at most one byte. -/
theorem sequencerAction_addsRead {s t : State} (h : sequencerAction s = .next t) : AddsRead s t := by
  rcases sequencerAction_cases s with ⟨v, r, -, e⟩ | ⟨ms, r, -, e⟩ | ⟨r, -, e⟩ | ⟨b, a, r, i, -, -, e, e'⟩
    | ⟨b, a, r, x, -, -, e⟩ | ⟨-, e⟩ <;> rw [e] at h
  · cases h
    exact .inl (finishAction_imgReads _)
  · cases h
    exact .inl (delayTick_imgReads ms finishAction s finishAction_imgReads)
  · cases h
    exact .inl (busyWaitAction_imgReads s)
  · rw [e'] at h
    obtain ⟨w, hw, rfl⟩ := sendCommand_frameSent h
    obtain ⟨-, hreads, -⟩ := afterFrame_log ((dataOf s.cfg a i).count s.cfg) w
    unfold AddsRead
    rw [hreads]
    exact hw.reads
  · cases h
  · cases h

/-- Settles O44: the host's access sends and reads nothing, and the sequencer's action adds at most one event and one read. -/
theorem oneEventAClock : Obligations.OneEventAClock := by
  intro s t hrst h
  refine ⟨(step_adds hrst h).imp_right fun ⟨e, _, hlog⟩ => ⟨e, hlog⟩, ?_⟩
  obtain ⟨u, v, hu, hv, rfl⟩ := step_phases hrst h
  obtain ⟨-, -, hreads, -⟩ := hostPhase_outside hu
  have hadds : AddsRead u v := by
    rcases sequencerPhase_cases hv with hv | rfl
    · exact sequencerAction_addsRead hv
    · exact .inl rfl
  unfold AddsRead at hadds
  rwa [hreads] at hadds

/-! ### Progress -/

theorem sendCommand_answers {b : Byte} {d : FrameData} {s : State} (h : s.frameIdx ≤ d.count s.cfg) :
    ∃ t, sendCommand b d s = .next t := by
  rcases sendCommand_cases b d s with ⟨-, e⟩ | ⟨-, -, e⟩ | ⟨hlt, -⟩
  · exact ⟨_, e⟩
  · exact ⟨_, e⟩
  · omega

/-- A running operation is at an action, and a command there is one of the table with a frame still to send. -/
theorem RunningOk.sequencerAction_answers {s : State} (h : RunningOk s) (hvalid : s.cfg.valid = true) :
    ∃ t, sequencerAction s = .next t := by
  obtain ⟨-, hlegal, -, hsuffix, hpos, -⟩ := h
  obtain ⟨i, r, htodo, haction, -⟩ := positionOk_inside hpos
  cases i with
  | rst v => exact ⟨_, by rw [sequencerAction, htodo]⟩
  | delay ms => exact ⟨_, sequencerAction_delay htodo⟩
  | busyWait => exact ⟨_, by rw [sequencerAction, htodo]⟩
  | cmd b a =>
    have hknown : (Item.cmd b a).known s.cfg = true :=
      List.all_eq_true.mp (planOf_known s.lOp s hlegal) _ (hsuffix.subset (htodo ▸ List.mem_cons_self))
    obtain ⟨j, hj⟩ := decode_of_known hvalid hknown
    rw [sequencerAction_cmd htodo hj]
    obtain ⟨hle, -⟩ := (positionOk_cmd htodo).mp hpos
    exact sendCommand_answers hle
  | setState x | setLutMode t => cases haction

theorem sequencerPhase_answers {running stall : Bool} {s : State} (hinv : Inv s)
    (hrun : running = true → s.active = true) : ∃ t, sequencerPhase running stall s = .next t := by
  unfold sequencerPhase
  split
  · obtain ⟨hrunning, -⟩ := (Bool.and_eq_true _ _).mp ‹(running && !stall) = true›
    exact (hinv.running (hrun hrunning)).sequencerAction_answers hinv.cfg_valid
  · exact ⟨s, rfl⟩

/-- The host's access is refused only where R72 refuses it. -/
theorem hostPhase_answers (access : Option Access) (s : State) :
    (∃ t, hostPhase access s = .next t)
      ∨ (hostPhase access s = .refused .undefinedAccess ∧ ∃ a, access = some a ∧ a.wf s.cfg = false) := by
  cases access with
  | none => exact .inl ⟨s, rfl⟩
  | some a =>
    cases hwf : a.wf s.cfg with
    | true => exact .inl (hostAccess_answers hwf)
    | false => exact .inr ⟨hostAccess_refused hwf, a, rfl, hwf⟩

/-- An operation that runs at a clock's start still runs after the host's access. -/
theorem hostPhase_active {access : Option Access} {s t : State} (hs : s.active = true)
    (h : hostPhase access s = .next t) : t.active = true := by
  obtain ⟨⟨hact, -⟩, -⟩ := hostPhase_running hs h
  exact hact.trans hs

theorem step_blockReset {s : State} (hvalid : s.cfg.valid = true) (hrst : s.nextInput.rstN = false) :
    step s = .next (blockReset s.takeInput) := by
  simp [step, clock, hvalid, hrst]

theorem step_eq_runClock {s : State} (hvalid : s.cfg.valid = true) (hrst : s.nextInput.rstN = true) :
    step s = runClock s.nextInput s.takeInput := by
  simp [step, clock, hvalid, hrst]

/-- Settles O39: the host's access keeps the invariant or is refused, and from the invariant the sequencer acts. -/
theorem invariantStatesGoOn : Obligations.InvariantStatesGoOn := by
  intro s hinv
  cases hrst : s.nextInput.rstN with
  | false => exact .inl ⟨_, step_blockReset hinv.cfg_valid hrst⟩
  | true =>
    rw [step_eq_runClock hinv.cfg_valid hrst]
    rcases hostPhase_answers s.nextInput.access s.takeInput with ⟨u, hu⟩ | ⟨hrefused, hwf⟩
    · obtain ⟨v, hv⟩ : ∃ v, sequencerPhase s.takeInput.active s.nextInput.stall u = .next v :=
        sequencerPhase_answers (hostPhase_inv (takeInput_inv hinv) hu) fun hactive => hostPhase_active hactive hu
      exact .inl ⟨shiftSync v, by simp only [runClock, hu, hv, andThen]⟩
    · exact .inr ⟨by simp only [runClock, hrefused, andThen], rfl, hwf⟩

end Sys2Proof.Machine
end

section
/-! PROOFS. The encoding of the two languages (R90-R103): the decoder and the encoder are inverse to each other, which codes
decode at all, the operand bytes of the wire, the frames of a panel command whose data is no image, and the step that runs a
decoded command byte. -/

namespace Sys2Proof.Laws.TableRow

/-- Every instruction has the row of the opcode table that its encoding names. -/
theorem statement_all : ∀ i : Instr, Statement i
  | .reset => reset
  | .init => init
  | .setWindow => setWindow
  | .setCursor => setCursor
  | .setLut => setLut
  | .display => display
  | .displayBase => displayBase
  | .displayPartial => displayPartial
  | .clear => clear
  | .sleep => sleep
  | .swReset => swReset
  | .driverOutputControl => driverOutputControl
  | .dataEntryMode => dataEntryMode
  | .ramWindowX => ramWindowX
  | .ramWindowY => ramWindowY
  | .ramCursorX => ramCursorX
  | .ramCursorY => ramCursorY
  | .displayUpdateControl1 => displayUpdateControl1
  | .displayUpdateControl2 => displayUpdateControl2
  | .writeRamBw => writeRamBw
  | .writeRamRed => writeRamRed
  | .masterActivation => masterActivation
  | .writeLut => writeLut
  | .lutEndOption => lutEndOption
  | .gateVoltage => gateVoltage
  | .sourceVoltage => sourceVoltage
  | .writeVcom => writeVcom
  | .borderWaveform => borderWaveform
  | .deepSleep => deepSleep
  | .partialOpt => partialOpt

end Sys2Proof.Laws.TableRow

namespace Sys2Proof

/-! ### The encoder -/

theorem hostOpOf_of_encode {optCmd : Byte} {i : Instr} {w : Word} (h : encode optCmd i = .hostWord w) :
    hostOpOf (opField w) = some i := by
  have hrow := Laws.TableRow.statement_all i optCmd
  rw [h] at hrow
  exact hrow.left

theorem commandOf_of_encode {optCmd b : Byte} {i : Instr} (h : encode optCmd i = .commandByte b) :
    commandOf b = some i ∨ i = .partialOpt ∧ b = optCmd := by
  have hrow := Laws.TableRow.statement_all i optCmd
  rwa [h] at hrow

theorem encode_of_hostOpOf {op : BitVec 4} {i : Instr} (optCmd : Byte) (hi : hostOpOf op = some i) :
    encode optCmd i = .hostWord (op.setWidth 32) := by
  have hop : Machine.legalOp op = true := by simp [Machine.legalOp, hi]
  induction op, hop using Machine.legalOp_cases <;> cases hi <;> rfl

/-- The rows of R95 read from left to right and from right to left. -/
theorem map_encode_commandOf (optCmd : Byte) :
    ∀ b ∈ fixedCommandBytes, (commandOf b).map (encode optCmd) = some (.commandByte b) := by
  simp [fixedCommandBytes, commandOf, encode]

theorem commandOf_isSome_iff (b : Byte) : (commandOf b).isSome = true ↔ b ∈ fixedCommandBytes := by
  refine ⟨Machine.commandOf_some b, fun hb => ?_⟩
  have hrow := congrArg Option.isSome (map_encode_commandOf 0#8 b hb)
  rwa [Option.isSome_map] at hrow

theorem encode_of_commandOf {b : Byte} {i : Instr} (optCmd : Byte) (hi : commandOf b = some i) :
    encode optCmd i = .commandByte b := by
  have hrow := map_encode_commandOf optCmd b (Machine.commandOf_some b (Option.isSome_of_eq_some hi))
  rw [hi] at hrow
  exact Option.some.inj hrow

/-! ### The decoder -/

theorem decode_hostWord_iff (optCmd : Byte) (w : Word) (i : Instr) :
    decode optCmd (.hostWord w) = .ok i ↔ hostOpOf (opField w) = some i := by
  cases h : hostOpOf (opField w) <;> simp [decode, h]

theorem decode_commandByte_iff (optCmd b : Byte) (i : Instr) :
    decode optCmd (.commandByte b) = .ok i
      ↔ commandOf b = some i ∨ commandOf b = none ∧ b = optCmd ∧ i = .partialOpt := by
  cases h : commandOf b with
  | some j => simp [decode, h]
  | none =>
    by_cases hb : b = optCmd
    · subst hb
      simp [decode, h, eq_comm]
    · simp [decode, h, hb]

theorem commandOf_of_optCommandOk {optCmd : Byte} (h : optCommandOk optCmd = true) : commandOf optCmd = none := by
  rw [optCommandOk_iff, ← commandOf_isSome_iff] at h
  simpa using h

/-- Settles O1: the code of an instruction is its row of the table, and the decoder reads the row back; it reads no bit of a CMD
word but the OP field. -/
theorem decodeEncodeRoundTrip : Obligations.DecodeEncodeRoundTrip := by
  intro optCmd i hwf
  have hword (w v : Word) (hcode : encode optCmd i = .hostWord w) (hop : opField v = opField w) :
      decode optCmd (.hostWord v) = .ok i := by
    rw [decode_hostWord_iff, hop]
    exact hostOpOf_of_encode hcode
  refine ⟨?_, hword⟩
  cases hcode : encode optCmd i with
  | hostWord w => exact hword w w hcode rfl
  | commandByte b =>
    rw [decode_commandByte_iff]
    rcases commandOf_of_encode hcode with hb | ⟨rfl, rfl⟩
    · exact .inl hb
    · exact .inr ⟨commandOf_of_optCommandOk hwf, rfl, rfl⟩

theorem setWidth_opField (w : Word) : (opField w).setWidth 32 = w &&& 0xF#32 := by
  have hmask : (0xF#32).toNat = 2 ^ 4 - 1 := rfl
  refine BitVec.eq_of_toNat_eq ?_
  rw [BitVec.toNat_and, hmask, Nat.and_two_pow_sub_one_eq_mod, BitVec.toNat_setWidth, Machine.opField_toNat]
  omega

/-- Settles O2: the rows of the two tables, read from the code to the instruction, are the encoder's. -/
theorem decodedCodeIsTheEncoding : Obligations.DecodedCodeIsTheEncoding := by
  intro optCmd i hopt
  refine ⟨fun w h => ?_, fun b h => ?_⟩
  · rw [decode_hostWord_iff] at h
    rw [encode_of_hostOpOf optCmd h, setWidth_opField]
  · rcases (decode_commandByte_iff optCmd b i).mp h with hb | ⟨-, rfl, rfl⟩
    · exact encode_of_commandOf optCmd hb
    · rfl

/-- The decoder reads a CMD word by its value modulo 16. -/
theorem decode_hostWord_of_mod {op : BitVec 4} {i : Instr} (optCmd : Byte) {w : Word} (hi : hostOpOf op = some i)
    (hw : w.toNat % 16 = op.toNat) : decode optCmd (.hostWord w) = .ok i := by
  rw [← Machine.opField_toNat] at hw
  rwa [decode_hostWord_iff, BitVec.eq_of_toNat_eq hw]

theorem decode_hostWord_reserved (optCmd : Byte) {w : Word} (h : w.toNat % 16 = 0 ∨ 11 ≤ w.toNat % 16) :
    decode optCmd (.hostWord w) = .error (.reservedOp (opField w)) := by
  rw [← Machine.opField_toNat] at h
  simp [decode, Machine.hostOpOf_reserved h]

/-- Settles O3: one row of R92 for each code, and the reserved codes have none. -/
theorem hostWordsDecode : Obligations.HostWordsDecode := fun optCmd _ =>
  ⟨decode_hostWord_of_mod (op := 0x1#4) optCmd rfl, decode_hostWord_of_mod (op := 0x2#4) optCmd rfl,
    decode_hostWord_of_mod (op := 0x3#4) optCmd rfl, decode_hostWord_of_mod (op := 0x4#4) optCmd rfl,
    decode_hostWord_of_mod (op := 0x5#4) optCmd rfl, decode_hostWord_of_mod (op := 0x6#4) optCmd rfl,
    decode_hostWord_of_mod (op := 0x7#4) optCmd rfl, decode_hostWord_of_mod (op := 0x8#4) optCmd rfl,
    decode_hostWord_of_mod (op := 0x9#4) optCmd rfl, decode_hostWord_of_mod (op := 0xA#4) optCmd rfl,
    decode_hostWord_reserved optCmd⟩

theorem exists_decode_commandByte_iff (optCmd b : Byte) :
    (∃ i, decode optCmd (.commandByte b) = .ok i) ↔ b ∈ fixedCommandBytes ∨ b = optCmd := by
  simp only [decode_commandByte_iff, ← commandOf_isSome_iff]
  cases commandOf b <;> simp

/-- Settles O4: the list is the fixed bytes and PARTIAL_OPT_CMD. -/
theorem commandSpace : Obligations.CommandSpace := by
  intro optCmd b _
  rw [exists_decode_commandByte_iff, ← List.mem_singleton, ← List.mem_append]
  rfl

/-- Settles O5: the decoder evaluated at the eight codes. -/
theorem sampleWordsDecode : Obligations.SampleWordsDecode :=
  ⟨rfl, rfl, rfl, rfl, rfl, rfl, rfl, rfl⟩

end Sys2Proof

namespace Sys2Proof.Machine

/-! ### The address bytes (R96, R97) -/

theorem xByte_toNat (x : Half) : (xByte x).toNat = x.toNat / 8 % 256 := by
  simp [xByte, Nat.shiftRight_eq_div_pow]

theorem yBytes_toNat (y : Half) : (yBytes y).map BitVec.toNat = [y.toNat % 256, y.toNat / 256] := by
  have hhigh : y.toNat / 256 < 256 := by omega
  simp [yBytes, Nat.shiftRight_eq_div_pow, Nat.mod_eq_of_lt hhigh]

/-- Settles O6: the shifts of R96 and R97 are divisions by 8 and 256, and a 16-bit value divided by 256 fits in a byte. -/
theorem addressBytes : Obligations.AddressBytes := fun v => ⟨xByte_toNat v, yBytes_toNat v⟩

/-! ### The frames of a command that reads no image byte (R95, R98, R245) -/

/-- The frames of a command with byte `b` and data `d`, in their order (R94, R95). -/
def commandFrames (b : Byte) (d : FrameData) (s : State) : List (FrameKind × List Byte) :=
  (.cmd, [b]) :: (List.range (d.count s.cfg)).map fun k => (.data, (dataFrame d k s).1)

theorem commandFrames_each (b : Byte) (bs : List Byte) (s : State) :
    commandFrames b (.each bs) s = (.cmd, [b]) :: bs.map fun x => (.data, [x]) := by
  refine congrArg (List.cons _) (List.ext_getElem (by simp [FrameData.count]) fun n h _ => ?_)
  have hn : n < bs.length := by simpa [FrameData.count] using h
  simp [dataFrame, hn]

theorem afterFrame_emitFrame {s : State} (kind : FrameKind) (bs : List Byte) (last : Nat) (htx : s.txErrI = false) :
    afterFrame last (emitFrame kind bs s) =
      if s.frameIdx < last then { emitFrame kind bs s with frameIdx := s.frameIdx + 1, stepNo := s.stepNo + 1 }
      else finishAction (emitFrame kind bs s) := by
  simp [afterFrame, htx]

/-- A command whose data frames take no image read sends its frames one after the other. -/
theorem sendsFrames_of_exec {i : Instr} {b : Byte} {d : FrameData} {s : State} (hexec : exec i s = sendCommand b d s)
    (hread : ∀ k, (dataFrame d k s).2 = s) : SendsFrames i (commandFrames b d s) s := by
  intro k f hf hidx htx
  have hlength : (commandFrames b d s).length = d.count s.cfg + 1 := by simp [commandFrames]
  have hframe : sendCommand b d s = .next (afterFrame (d.count s.cfg) (emitFrame f.1 f.2 s)) := by
    cases k with
    | zero =>
      obtain rfl : (.cmd, [b]) = f := Option.some.inj hf
      simp [sendCommand, hidx]
    | succ n =>
      obtain ⟨hn, rfl⟩ : n < d.count s.cfg ∧ (.data, (dataFrame d n s).1) = f := by
        simpa [commandFrames, List.getElem?_eq_some_iff] using hf
      have hle : n + 1 ≤ d.count s.cfg := hn
      simp [sendCommand, hidx, hle, hread]
  simp only [hexec, hframe, afterFrame_emitFrame _ _ _ htx, hidx, hlength, Nat.add_lt_add_iff_right]

theorem sendsFrames_each {i : Instr} {b : Byte} {bs : List Byte} {s : State}
    (hexec : exec i s = sendCommand b (.each bs) s) : SendsFrames i ((.cmd, [b]) :: bs.map fun x => (.data, [x])) s :=
  commandFrames_each b bs s ▸ sendsFrames_of_exec hexec fun _ => rfl

theorem sendsFrames_bulk {i : Instr} {b : Byte} {bs : List Byte} {s : State}
    (hexec : exec i s = sendCommand b (.bulk bs) s) : SendsFrames i [(.cmd, [b]), (.data, bs)] s :=
  sendsFrames_of_exec hexec fun _ => rfl

theorem args_eq {s : State} {b : Byte} {a : Args} {r : List Item} (htodo : s.todo = .cmd b a :: r) : s.args = a := by
  simp [State.args, htodo]

/-- Settles O25: the table is the one of the current action's arguments, and each command of the LUT load sends its part of it. -/
theorem lutCommandFrames : Obligations.LutCommandFrames := by
  intro s b a r T htodo hfull hpart
  obtain rfl : T = lutTable s.cfg s.args.table := by
    rw [args_eq htodo]
    cases htable : a.table with
    | full => exact hfull htable
    | part => exact hpart htable
  exact ⟨sendsFrames_bulk rfl, sendsFrames_each (i := .lutEndOption) (s := s) rfl,
    sendsFrames_each (i := .gateVoltage) (s := s) rfl, sendsFrames_each (i := .sourceVoltage) (s := s) rfl,
    sendsFrames_each (i := .writeVcom) (s := s) rfl⟩

/-! ### The step of a panel command (R200) -/

theorem sequencerAction_exec {s : State} {b : Byte} {a : Args} {r : List Item} {i : Instr} (htodo : s.todo = .cmd b a :: r)
    (hi : decode s.cfg.partialOptCmd (.commandByte b) = .ok i) : sequencerAction s = exec i s := by
  simp [sequencerAction, htodo, hi]

/-- Settles O37: the host does nothing, and with ACTIVE = 1 and no stall the clock's action is the decoded command. -/
theorem stepRunsPanelCommand : Obligations.StepRunsPanelCommand := by
  intro s b a r i hvalid hrst haccess hstall hactive htodo hi
  have hhost : hostPhase s.nextInput.access s.takeInput = .next s.takeInput := by rw [haccess, hostPhase]
  have hseq : sequencerPhase s.takeInput.active s.nextInput.stall s.takeInput = exec i s.takeInput := by
    rw [← sequencerAction_exec (s := s.takeInput) htodo hi]
    simp [sequencerPhase, hactive, hstall]
  rw [step_eq_runClock hvalid hrst, runClock, hhost, ← hseq, andThen]

end Sys2Proof.Machine
end

section
/-! PROOFS. The framer (R120, R128, R129, R268): the levels of the lines through a frame, and the abort that a transport error
reported after a frame brings. -/

namespace Sys2Proof.Machine

/-! ### The levels through a frame (R120, R129) -/

@[simp] theorem bitWave_rising (l : Lines) (b : Bool) :
    (bitWave l b).filter (·.sclkO) = [{ l with mosiO := b, sclkO := true }] := rfl

/-- While bits go out, each is on mosi_o at one high phase of sclk_o. -/
theorem bitWaves_mosi (l : Lines) (bits : List Bool) :
    ((bits.flatMap (bitWave l)).filter (·.sclkO)).map (·.mosiO) = bits := by
  induction bits with
  | nil => rfl
  | cons b bits ih => simp [ih]

/-- A bit moves no line but sclk_o and mosi_o. -/
theorem bitWave_frame {l x : Lines} {b : Bool} (hx : x ∈ bitWave l b) :
    x = { l with sclkO := x.sclkO, mosiO := x.mosiO } := by
  obtain rfl | rfl | rfl : x = _ ∨ x = _ ∨ x = _ := by simpa [bitWave] using hx
  all_goals rfl

/-- The high phases of sclk_o are those of the bits: it is low before chip-select falls and after it rises. -/
theorem frameWave_mosi (k : FrameKind) (bs : List Byte) {l : Lines} (hl : l.sclkO = false) :
    ((frameWave k bs l).filter (·.sclkO)).map (·.mosiO) = bs.flatMap byteBits := by
  simp [frameWave, afterFrameLines, hl, bitWaves_mosi]

/-- Through a frame dc_o is the frame's kind, rst_o is held, and sclk_o rises only with chip-select low. -/
theorem frameWave_levels {k : FrameKind} {bs : List Byte} {l x : Lines} (hl : l.sclkO = false)
    (hx : x ∈ frameWave k bs l) : x.dcO = k.level ∧ x.rstO = l.rstO ∧ (x.sclkO = true → x.csO = false) := by
  simp only [frameWave, List.mem_append, List.mem_cons, List.not_mem_nil, or_false, List.mem_flatMap] at hx
  rcases hx with ((rfl | rfl) | ⟨b, -, hbit⟩) | (rfl | rfl)
  · exact ⟨rfl, rfl, by simp [hl]⟩
  · exact ⟨rfl, rfl, fun _ => rfl⟩
  · rw [bitWave_frame hbit]
    exact ⟨rfl, rfl, fun _ => rfl⟩
  · exact ⟨rfl, rfl, nofun⟩
  · exact ⟨rfl, rfl, nofun⟩

/-- Settles O30: the high phases of sclk_o carry the bits of each byte, no level of the wave breaks the frame's dc_o, and the
wave's last levels are those of R129. -/
theorem frameWaveSendsBitsMsbFirst : Obligations.FrameWaveSendsBitsMsbFirst := fun k bs l hl =>
  ⟨frameWave_mosi k bs hl, fun _ hx => frameWave_levels hl hx, frameWave_last k bs l⟩

/-! ### A transport error after a frame (R128, R266, R268) -/

/-- `s` after the frame that is due: the CMD frame of byte `b`, or the next frame of the data `d` (R94, R95). -/
def sendDueFrame (b : Byte) (d : FrameData) (s : State) : State :=
  match s.frameIdx with
  | 0 => emitFrame .cmd [b] s
  | k + 1 => emitFrame .data (dataFrame d k s).1 (dataFrame d k s).2

theorem sendDueFrame_zero {b : Byte} {d : FrameData} {s : State} (h : s.frameIdx = 0) :
    sendDueFrame b d s = emitFrame .cmd [b] s := by
  rw [sendDueFrame, h]

theorem sendDueFrame_succ {b : Byte} {d : FrameData} {s : State} {k : Nat} (h : s.frameIdx = k + 1) :
    sendDueFrame b d s = emitFrame .data (dataFrame d k s).1 (dataFrame d k s).2 := by
  rw [sendDueFrame, h]

theorem sendDueFrame_frameSent (b : Byte) (d : FrameData) (s : State) : FrameSent s (sendDueFrame b d s) := by
  cases hidx : s.frameIdx with
  | zero =>
    rw [sendDueFrame_zero hidx]
    exact emitFrame_frameSent .cmd [b] s
  | succ k =>
    rw [sendDueFrame_succ hidx]
    rcases dataFrame_state d k s with e | ⟨addr, e⟩ <;> rw [e]
    · exact emitFrame_frameSent _ _ s
    · exact emitFrame_imageRead_frameSent _ _ addr s

/-- A panel command with a frame due sends that frame, and goes on from it. -/
theorem sendCommand_eq_afterFrame {b : Byte} {d : FrameData} {s : State} (hle : s.frameIdx ≤ d.count s.cfg) :
    sendCommand b d s = .next (afterFrame (d.count s.cfg) (sendDueFrame b d s)) := by
  rcases sendCommand_cases b d s with ⟨hidx, e⟩ | ⟨hne, -, e⟩ | ⟨hlt, -⟩
  · rw [e, sendDueFrame_zero hidx]
  · obtain ⟨k, hidx⟩ := Nat.exists_eq_succ_of_ne_zero hne
    rw [e, sendDueFrame_succ hidx, hidx, Nat.succ_sub_one]
  · exact absurd hle hlt.not_ge

theorem FrameSent.txErrI {s w : State} (h : FrameSent s w) : w.txErrI = s.txErrI := by
  obtain ⟨⟨-, -, ⟨-, -, -, -, -, -, htx, -⟩, -⟩, -⟩ := h.point
  exact htx

theorem afterFrame_transportError (last : Nat) {s : State} (htx : s.txErrI = true) :
    afterFrame last s = abort .transportError s := by
  rw [afterFrame, if_pos htx]

/-- A panel command whose frame fails sends that frame, and aborts. -/
theorem sendCommand_transportError {b : Byte} {d : FrameData} {s : State} (htx : s.txErrI = true)
    (hle : s.frameIdx ≤ d.count s.cfg) : sendCommand b d s = .next (abort .transportError (sendDueFrame b d s)) := by
  rw [sendCommand_eq_afterFrame hle, afterFrame_transportError _ ((sendDueFrame_frameSent b d s).txErrI.trans htx)]

/-- Settles O29: the command aborts from the state after the frame that was due, and an abort leaves all but STATUS, the
sequencer and the levels of the lines. -/
theorem transportErrorAborts : Obligations.TransportErrorAborts := by
  intro b i s hi htx hle
  have hsent := sendDueFrame_frameSent b (dataOf s.cfg s.args i) s
  obtain ⟨⟨hregs, hlatch, -, -⟩, -, -, -, -, -, -, hmode, -, -⟩ := hsent.point
  refine ⟨abort .transportError (sendDueFrame b (dataOf s.cfg s.args i) s), ?_, rfl, rfl, rfl, rfl, rfl, rfl, rfl, hmode,
    hsent.rstO, rfl, rfl, rfl, hregs, hlatch, fun hidx => ?_, fun k hidx => ?_⟩
  · rw [exec_command b i s hi, sendCommand_transportError htx hle]
  · rw [sendDueFrame_zero hidx]
    exact ⟨rfl, rfl, rfl⟩
  · rw [sendDueFrame_succ hidx]
    exact ⟨congrArg (List.cons _) (dataFrame_log _ k s), rfl, rfl⟩

end Sys2Proof.Machine
end

section
/-! PROOFS. The reset line, the delays, the busy-waits and the synchroniser (R140-R144, R148): what one clock of them does, and
what a number of clocks does when nothing holds the sequencer up. -/

namespace Sys2Proof.Machine

/-! ### The reset line (R143) -/

/-- Settles O31: the action changes rst_o and the trace, and ends; the entry after it is the next action when it is one. -/
theorem resetLineDriven : Obligations.ResetLineDriven := by
  intro s v r htodo
  have hseq : sequencerAction s = .next (rstAction v s) := by simp [sequencerAction, htodo]
  obtain ⟨hregs, hlatch, hout, -⟩ := rstAction_kept v s
  obtain ⟨⟨-, hreads, hlines⟩, -⟩ := finishAction_trace (emit (.rst v) { s with lines := { s.lines with rstO := v } })
  refine ⟨rstAction v s, hseq, rstAction_log v s, hlines, hreads, hregs, hlatch, hout, fun i r' hr hi => ?_⟩
  have haction : i.isAction = true := by
    rcases hi with rfl | ⟨ms, rfl⟩ <;> rfl
  rw [rstAction, finishAction_action (i := i) (r := r') (by simp [htodo, hr]) haction]
  exact ⟨hr.symm, rfl⟩

/-! ### A sample of a busy-wait (R141, R142) -/

theorem timedOut_iff {p : Params} {n : Nat} :
    timedOut p n = true ↔ ∃ limit, p.busyTimeoutPolls = some limit ∧ limit ≤ n := by
  cases h : p.busyTimeoutPolls <;> simp [timedOut, h]

theorem timedOut_eq_false_iff {p : Params} {n : Nat} :
    timedOut p n = false ↔ ∀ limit, p.busyTimeoutPolls = some limit → n < limit := by
  cases h : p.busyTimeoutPolls <;> simp [timedOut, h]

theorem sequencerAction_busyWait {s : State} {r : List Item} (htodo : s.todo = .busyWait :: r) :
    sequencerAction s = .next (busyWaitAction s) := by
  simp [sequencerAction, htodo]

/-- Settles O32: with no poll delay running, the three ways a sample goes. -/
theorem busyWaitSample : Obligations.BusyWaitSample := by
  intro s r htodo hoff
  have hreads := busyWaitAction_imgReads s
  obtain ⟨hregs, hlatch, hout, -⟩ := busyWaitAction_kept s
  refine ⟨busyWaitAction s, sequencerAction_busyWait htodo, ?_⟩
  rcases busyWaitAction_cases s with ⟨hon, -⟩ | ⟨-, hsync, h⟩ | ⟨-, hsync, hto, h⟩ | ⟨-, hsync, hto, h⟩
  · simp [hoff] at hon
  · obtain ⟨⟨hlog, -, hlines⟩, -⟩ := finishAction_trace
      (emit (.poll false) { s with polls := if s.waiting then s.polls else 0 })
    rw [← h] at hlog hlines
    simp only [hsync, Bool.false_eq_true, false_implies, and_true, true_and, true_implies]
    exact ⟨hlog, hreads, hregs, hlatch, hout, congrArg Lines.rstO hlines, h⟩
  · rw [h] at hreads hregs hlatch hout ⊢
    obtain ⟨limit, hsome, hle⟩ := timedOut_iff.mp hto
    simp only [hsync, Bool.true_eq_false, false_implies, true_implies, true_and]
    exact ⟨rfl, hreads, rfl, hregs, hlatch, hout, rfl, rfl, fun hbelow => absurd (hbelow limit hsome) hle.not_gt,
      fun _ => ⟨rfl, rfl, rfl, rfl, rfl, rfl, rfl, rfl⟩⟩
  · rw [h] at hreads hregs hlatch hout ⊢
    simp only [hsync, Bool.true_eq_false, false_implies, true_implies, true_and]
    exact ⟨rfl, hreads, rfl, hregs, hlatch, hout, rfl, rfl, fun _ => ⟨rfl, rfl, rfl, rfl, rfl, rfl, rfl, rfl, rfl, rfl⟩,
      fun ⟨limit, hsome, hle⟩ => absurd (timedOut_eq_false_iff.mp hto limit hsome) hle.not_gt⟩

/-! ### The synchroniser (R140) -/

/-- A clock with rst_n = 1 shifts the level of busy_i into the synchroniser, whatever else it does. -/
theorem step_sync {s t : State} (hrst : s.nextInput.rstN = true) (h : step s = .next t) :
    t.cfg = s.cfg ∧ t.sync = (s.nextInput.busyI :: s.sync).take s.cfg.busySyncStages := by
  obtain ⟨u, v, hu, hv, rfl⟩ := step_phases hrst h
  obtain ⟨⟨hcfg, -, -, -, -, hbusy, -, hsync, -⟩, -⟩ := hostPhase_outside hu
  obtain ⟨-, -, ⟨hcfg', -, -, -, -, hbusy', -, hsync', -⟩, -⟩ := sequencerPhase_kept hv
  rw [shiftSync_sync, shiftSync_cfg, hcfg', hcfg, hbusy', hbusy, hsync', hsync]
  exact ⟨rfl, rfl⟩

/-- Settles O35: the level enters at the first flip-flop in one clock and moves to the second in the next. -/
theorem busySynchroniserDelaysTwoClocks : Obligations.BusySynchroniserDelaysTwoClocks := by
  refine ⟨fun s t u hstages hlen hrst hrst' hst htu => ?_, fun p hp => ?_⟩
  · obtain ⟨a, b, hs⟩ := List.length_eq_two.mp hlen
    obtain ⟨hcfg, ht⟩ := step_sync hrst hst
    obtain ⟨-, hu⟩ := step_sync hrst' htu
    rw [hstages, hs] at ht
    rw [hcfg, hstages, ht] at hu
    have hbusy : u.busySync = s.nextInput.busyI := by rw [State.busySync, hu]; rfl
    obtain ⟨-, -, -, hstatus, -⟩ := statusLayout u
    exact ⟨hbusy, hstatus.trans hbusy, by rw [State.busySync, ht, hs]; rfl⟩
  · have hsync : (State.resetOf p).sync = [true, true] := by simp [State.resetOf, hp, List.replicate]
    exact ⟨hsync, by rw [State.busySync, hsync]; rfl⟩

/-! ### Clocks in which nothing holds the sequencer up -/

/-- `n` clocks lead from `s` to `t`. -/
def Runs (n : Nat) (s t : State) : Prop := Host.Core.run Sys2Proof.core n s = .next t

theorem Runs.refl (s : State) : Runs 0 s s := rfl

theorem Runs.head {n : Nat} {s t u : State} (h : step s = .next t) (h' : Runs n t u) : Runs (n + 1) s u :=
  (run_succ_of_step (M := Sys2Proof.core) h n).trans h'

theorem Runs.single {s t : State} (h : step s = .next t) : Runs 1 s t := .head h (.refl t)

theorem Runs.exists_step {n : Nat} {s t : State} (h : Runs (n + 1) s t) : ∃ w, step s = .next w ∧ Runs n w t := by
  simp only [Runs, Host.Core.run] at h
  split at h
  case h_1 w hw => exact ⟨w, hw, h⟩
  all_goals cases h

theorem Runs.trans {m n : Nat} {s t u : State} (h : Runs m s t) (h' : Runs n t u) : Runs (m + n) s u := by
  induction m generalizing s with
  | zero =>
    cases h
    rwa [Nat.zero_add]
  | succ m ih =>
    obtain ⟨w, hw, hrest⟩ := h.exists_step
    rw [Nat.add_right_comm]
    exact .head hw (ih hrest)

/-- Legal parameters, an operation that runs, and nothing to hold the sequencer up. -/
structure Running (s : State) : Prop where
  valid : s.cfg.valid = true
  active : s.active = true
  free : Undisturbed s

theorem Undisturbed.nextInput {s : State} (h : Undisturbed s) :
    s.nextInput.rstN = true ∧ s.nextInput.stall = false ∧ s.nextInput.access = none := by
  unfold State.nextInput
  cases hin : s.inputs with
  | nil => exact ⟨h.rstN, rfl, rfl⟩
  | cons x l => exact h.inputs x (hin ▸ List.mem_cons_self)

/-- What is outside the block after taking a clock's input still holds nothing up. -/
theorem Undisturbed.of_takeInput {s w : State} (h : Undisturbed s) (hk : Kept s.takeInput w) : Undisturbed w := by
  obtain ⟨-, -, ⟨-, -, -, hin, hrst, -⟩, -⟩ := hk
  obtain ⟨hrst', -⟩ := h.nextInput
  refine ⟨hrst.trans hrst', fun x hx => h.inputs x (List.mem_of_mem_tail ?_)⟩
  rwa [hin] at hx

/-- A clock that nothing disturbs is the sequencer's action. -/
theorem Running.step {s w : State} (h : Running s) (hseq : sequencerAction s.takeInput = .next w) :
    step s = .next (shiftSync w) := by
  obtain ⟨hrst, hstall, haccess⟩ := h.free.nextInput
  rw [step_eq_runClock h.valid hrst]
  simp only [runClock, haccess, hostPhase, andThen, sequencerPhase, takeInput_active, h.active, hstall, Bool.not_false,
    Bool.and_true, if_true, hseq]

theorem samePlace.refl {s : State} (h : s.active = true) : samePlace s s :=
  ⟨h, rfl, rfl, rfl, rfl, rfl, rfl, rfl, rfl, rfl, rfl⟩

theorem samePlace.trans {s t u : State} (h : samePlace s t) (h' : samePlace t u) : samePlace s u := by
  simp_all [samePlace]

/-- From `s` to `t` the operation stays at its action and sends `tr`, the newest event first; and still nothing holds it up. -/
structure Stays (tr : List LineEvent) (s t : State) : Prop where
  place : samePlace s t
  cfg : t.cfg = s.cfg
  free : Undisturbed t
  log : t.log = tr ++ s.log

theorem Stays.refl {s : State} (h : Running s) : Stays [] s s := ⟨.refl h.active, rfl, h.free, rfl⟩

theorem Stays.trans {tr tr' : List LineEvent} {s t u : State} (h : Stays tr s t) (h' : Stays tr' t u) :
    Stays (tr' ++ tr) s u :=
  ⟨h.place.trans h'.place, h'.cfg.trans h.cfg, h'.free, by rw [h'.log, h.log, List.append_assoc]⟩

theorem Stays.todo {tr : List LineEvent} {s t : State} (h : Stays tr s t) : t.todo = s.todo := by
  obtain ⟨-, htodo, -⟩ := h.place
  exact htodo

theorem Stays.running {tr : List LineEvent} {s t : State} (h : Stays tr s t) (hs : Running s) : Running t := by
  obtain ⟨hactive, -⟩ := h.place
  exact ⟨h.cfg ▸ hs.valid, hactive, h.free⟩

/-- A clock whose action stays where it is. -/
theorem Running.clock_stays {tr : List LineEvent} {s w : State} (h : Running s)
    (hseq : sequencerAction s.takeInput = .next w) (hplace : samePlace s w) (hlog : w.log = tr ++ s.log) :
    Machine.step s = .next (shiftSync w) ∧ Stays tr s (shiftSync w) := by
  have hkept := sequencerAction_kept _ _ hseq
  have hfree := h.free.of_takeInput hkept
  exact ⟨h.step hseq, hplace, hkept.cfg, ⟨hfree.rstN, hfree.inputs⟩, hlog⟩

/-! ### A delay timer that runs (R144) -/

/-- At the current action of `s`, a clock with the timer on is one of a delay of `ms`, which ends with `atEnd`. -/
def RunsTimer (ms : Nat) (atEnd : State → State) (s : State) : Prop :=
  ∀ u, u.todo = s.todo → u.cfg = s.cfg → u.delayOn = true → sequencerAction u = .next (delayTick ms atEnd u)

theorem runsTimer_delay {s : State} {ms : Nat} {r : List Item} (htodo : s.todo = .delay ms :: r) :
    RunsTimer ms finishAction s := fun _ hu _ _ => sequencerAction_delay (hu.trans htodo)

theorem runsTimer_busyWait {s : State} {r : List Item} (htodo : s.todo = .busyWait :: r) :
    RunsTimer s.cfg.busyPollMs id s := by
  intro u hu hcfg hon
  rw [sequencerAction_busyWait (hu.trans htodo), busyWaitAction, if_pos hon, hcfg]

/-- A timer that runs counts down, one a clock, and holds everything else. -/
theorem RunsTimer.counts {ms : Nat} {atEnd : State → State} {s : State} (htimer : RunsTimer ms atEnd s) (h : Running s)
    (hon : s.delayOn = true) (n : Nat) (hn : n ≤ s.delayCnt) :
    ∃ t, Runs n s t ∧ Stays [] s t ∧ t.delayOn = true ∧ t.delayCnt = s.delayCnt - n ∧ t.waiting = s.waiting
      ∧ t.polls = s.polls := by
  induction n with
  | zero => exact ⟨s, .refl s, .refl h, hon, rfl, rfl, rfl⟩
  | succ n ih =>
    obtain ⟨t, hruns, hstays, hton, hcnt, hwait, hpolls⟩ := ih (Nat.le_of_succ_le hn)
    have htick : sequencerAction t.takeInput = .next { t.takeInput with delayCnt := t.delayCnt - 1 } := by
      have hne : t.delayCnt ≠ 0 := by omega
      rw [htimer t.takeInput hstays.todo hstays.cfg hton]
      simp [delayTick, hton, hne]
    obtain ⟨hclock, hstays'⟩ := (hstays.running h).clock_stays (tr := []) htick (.refl (hstays.running h).active) rfl
    exact ⟨_, hruns.trans (.single hclock), hstays.trans hstays', hton, by simp [hcnt, Nat.sub_sub], hwait, hpolls⟩

/-- At zero it ends. -/
theorem RunsTimer.ends {ms : Nat} {atEnd : State → State} {s : State} (htimer : RunsTimer ms atEnd s)
    (hon : s.delayOn = true) (hcnt : s.delayCnt = 0) :
    sequencerAction s.takeInput = .next (atEnd (emit (.delay ms) { s.takeInput with delayOn := false })) := by
  rw [htimer s.takeInput rfl rfl hon]
  simp [delayTick, hon, hcnt]

/-- Settles O33: one clock loads the timer, it counts down to zero, and one clock ends the delay. -/
theorem delayHoldsTheLines : Obligations.DelayHoldsTheLines := by
  intro s ms r hvalid hactive hinputs hrst htodo hoff
  have h : Running s := ⟨hvalid, hactive, hrst, by simp [hinputs]⟩
  have hload : sequencerAction s.takeInput =
      .next { s.takeInput with delayOn := true, delayCnt := delayClocks s.cfg ms } := by
    rw [sequencerAction_delay (s := s.takeInput) htodo, delayAction]
    simp [delayTick, hoff]
  obtain ⟨hclock, hstays⟩ := h.clock_stays (tr := []) hload (.refl h.active) rfl
  have htimer := runsTimer_delay (hstays.todo.trans htodo)
  have counts := htimer.counts (hstays.running h) rfl
  refine ⟨fun n hn => ?_, ?_⟩
  · obtain ⟨t, hruns, hstays', -⟩ := counts n hn
    have hall := hstays.trans hstays'
    obtain ⟨hact, htodo', hstep, -, -, -, -, -, -, hlines, -⟩ := hall.place
    exact ⟨t, Runs.head hclock hruns, hall.log, hlines, htodo', hstep, hact⟩
  · obtain ⟨t, hruns, hstays', hon, hcnt, -⟩ := counts (delayClocks s.cfg ms) le_rfl
    have hall := hstays.trans hstays'
    have hend := (runsTimer_delay (hall.todo.trans htodo)).ends hon (hcnt.trans (Nat.sub_self _))
    obtain ⟨-, -, -, -, -, -, -, -, -, hlines, -⟩ := hall.place
    obtain ⟨⟨hlog, -, hlines'⟩, -⟩ := finishAction_trace (emit (.delay ms) { t.takeInput with delayOn := false })
    refine ⟨_, Runs.head hclock (hruns.trans (.single ((hall.running h).step hend))), ?_, ?_⟩
    · exact hlog.trans (congrArg (List.cons _) hall.log)
    · exact hlines'.trans hlines

/-! ### A busy-wait goes on (R141, R148) -/

/-- A poll delay that runs ends at the same busy-wait, with its one event. -/
theorem Running.pollDelay_ends {s : State} {r : List Item} (h : Running s) (htodo : s.todo = .busyWait :: r)
    (hon : s.delayOn = true) :
    ∃ t, Runs (s.delayCnt + 1) s t ∧ Stays [.delay s.cfg.busyPollMs] s t ∧ t.delayOn = false ∧ t.waiting = s.waiting
      ∧ t.polls = s.polls := by
  obtain ⟨t, hruns, hstays, hton, hcnt, hwait, hpolls⟩ := (runsTimer_busyWait htodo).counts h hon _ le_rfl
  have htimer := runsTimer_busyWait (hstays.todo.trans htodo)
  rw [hstays.cfg] at htimer
  obtain ⟨hclock, hstays'⟩ := (hstays.running h).clock_stays (tr := [.delay s.cfg.busyPollMs])
    (htimer.ends hton (hcnt.trans (Nat.sub_self _))) (.refl (hstays.running h).active) rfl
  exact ⟨_, hruns.trans (.single hclock), hstays.trans hstays', rfl, hwait, hpolls⟩

/-- A busy sample short of a timeout, its poll delay, and the same busy-wait again. -/
theorem Running.pollRound {s : State} {r : List Item} (h : Running s) (htodo : s.todo = .busyWait :: r)
    (hoff : s.delayOn = false) (hbusy : s.takeInput.busySync = true)
    (hto : timedOut s.cfg ((if s.waiting then s.polls else 0) + 1) = false) :
    ∃ t, Runs (delayClocks s.cfg s.cfg.busyPollMs + 2) s t ∧ Stays [.delay s.cfg.busyPollMs, .poll true] s t
      ∧ t.delayOn = false ∧ t.waiting = true ∧ t.polls = (if s.waiting then s.polls else 0) + 1 := by
  have hseq := sequencerAction_busyWait (s := s.takeInput) htodo
  rcases busyWaitAction_cases s.takeInput with ⟨hon, -⟩ | ⟨-, hidle, -⟩ | ⟨-, -, hto', -⟩ | ⟨-, -, -, e⟩
  · simp [hoff] at hon
  · simp [hbusy] at hidle
  · exact absurd (hto.symm.trans hto') Bool.noConfusion
  · rw [e] at hseq
    obtain ⟨hclock, hstays⟩ := h.clock_stays (tr := [.poll true]) hseq (.refl h.active) rfl
    obtain ⟨t, hruns, hstays', hton, hwait, hpolls⟩ :=
      (hstays.running h).pollDelay_ends (hstays.todo.trans htodo) rfl
    exact ⟨t, .head hclock hruns, hstays.trans hstays', hton, hwait, hpolls⟩

/-- With no poll delay running, the clock takes a sample, whatever the panel answers. -/
theorem Running.samples {s : State} {r : List Item} (h : Running s) (htodo : s.todo = .busyWait :: r)
    (hoff : s.delayOn = false) : ∃ u, Machine.step s = .next u ∧ u.log = .poll s.takeInput.busySync :: s.log := by
  obtain ⟨w, hseq, hlog, -⟩ := busyWaitSample s.takeInput r htodo hoff
  exact ⟨_, h.step hseq, hlog⟩

/-- Settles O59: a poll delay ends, or a busy sample starts one that ends; and from its end the next clock samples. -/
theorem busyWaitSamplesAgain : Obligations.BusyWaitSamplesAgain := by
  intro s r hvalid hactive hfree htodo
  have h : Running s := ⟨hvalid, hactive, hfree⟩
  refine ⟨fun hon => ?_, fun hoff hbusy hlimit => ?_⟩
  · obtain ⟨t, hruns, hstays, hton, hwait, hpolls⟩ := h.pollDelay_ends htodo hon
    obtain ⟨u, hstep, hlog⟩ := (hstays.running h).samples (hstays.todo.trans htodo) hton
    exact ⟨t, u, hruns, hstays.place, hton, hwait, hpolls, hstays.log, hstep, hlog⟩
  · obtain ⟨t, hruns, hstays, hton, hwait, hpolls⟩ := h.pollRound htodo hoff hbusy (timedOut_eq_false_iff.mpr hlimit)
    obtain ⟨u, hstep, hlog⟩ := (hstays.running h).samples (hstays.todo.trans htodo) hton
    exact ⟨t, u, hruns, hstays.place, hton, hwait, hpolls, hstays.log, hstep, hlog⟩

/-! ### A stuck busy line (R148, R317) -/

/-- At a busy-wait with no timeout and the panel busy for ever. -/
structure Stuck (s : State) : Prop where
  valid : s.cfg.valid = true
  active : s.active = true
  noTimeout : s.cfg.busyTimeoutPolls = none
  busy : StuckBusy s
  todo : ∃ r, s.todo = .busyWait :: r

theorem Stuck.running {s : State} (h : Stuck s) : Running s := ⟨h.valid, h.active, h.busy.rstN, by simp [h.busy.inputs]⟩

theorem StuckBusy.takeInput {s : State} (h : StuckBusy s) : StuckBusy s.takeInput := by
  have hnext : s.nextInput.rstN = s.rstN ∧ s.nextInput.busyI = s.busyI := by simp [State.nextInput, h.inputs]
  exact ⟨by simp [h.inputs], hnext.1.trans h.rstN, hnext.2.trans h.busyI, h.sync⟩

theorem StuckBusy.busySync {s : State} (h : StuckBusy s) : s.busySync = true := by
  rw [State.busySync, List.getLastD_eq_getLast?]
  cases hl : s.sync.getLast? with
  | none => exact h.busyI
  | some b => exact h.sync b (List.mem_of_getLast? hl)

/-- The synchroniser shifts a 1 into ones. -/
theorem StuckBusy.shiftSync {s w : State} (h : StuckBusy s) (hk : Kept s w) : StuckBusy (shiftSync w) := by
  obtain ⟨-, -, ⟨-, -, -, hin, hrst, hbusy, -, hsync, -⟩, -⟩ := hk
  refine ⟨hin.trans h.inputs, hrst.trans h.rstN, hbusy.trans h.busyI, fun b hb => ?_⟩
  rw [shiftSync_sync, hbusy, hsync, h.busyI] at hb
  rcases List.mem_cons.mp (List.mem_of_mem_take hb) with rfl | hb
  · rfl
  · exact h.sync b hb

/-- The events of a busy-wait that hangs. -/
def HangEvent (p : Params) (e : LineEvent) : Prop := e = .poll true ∨ e = .delay p.busyPollMs

/-- With the panel busy and no timeout, a clock of a busy-wait counts the poll delay down, ends it, or samples a 1. -/
theorem busyWaitAction_stays {s : State} (hactive : s.active = true) (hbusy : s.busySync = true)
    (hnone : s.cfg.busyTimeoutPolls = none) :
    samePlace s (busyWaitAction s) ∧ ∃ tr, (busyWaitAction s).log = tr ++ s.log ∧ ∀ e ∈ tr, HangEvent s.cfg e := by
  rcases busyWaitAction_cases s with ⟨hon, h⟩ | ⟨-, hidle, -⟩ | ⟨-, -, hto, -⟩ | ⟨-, -, -, h⟩
  · rcases delayTick_cases s.cfg.busyPollMs id s with ⟨hoff, -⟩ | ⟨-, -, h'⟩ | ⟨-, -, h'⟩
    · simp [hon] at hoff
    · rw [h, h']
      exact ⟨.refl hactive, [.delay s.cfg.busyPollMs], rfl, List.forall_mem_singleton.mpr (.inr rfl)⟩
    · rw [h, h']
      exact ⟨.refl hactive, [], rfl, List.forall_mem_nil _⟩
  · simp [hbusy] at hidle
  · exact absurd hnone (timedOut_none hto)
  · rw [h]
    exact ⟨.refl hactive, [.poll true], rfl, List.forall_mem_singleton.mpr (.inl rfl)⟩

/-- A clock of a stuck busy-wait leaves it stuck. -/
theorem Stuck.clock {s : State} (h : Stuck s) :
    ∃ t tr, step s = .next t ∧ Stays tr s t ∧ Stuck t ∧ ∀ e ∈ tr, HangEvent s.cfg e := by
  obtain ⟨r, htodo⟩ := h.todo
  have hseq := sequencerAction_busyWait (s := s.takeInput) htodo
  obtain ⟨hplace, tr, hlog, htr⟩ := busyWaitAction_stays (s := s.takeInput) h.active h.busy.takeInput.busySync h.noTimeout
  obtain ⟨hclock, hstays⟩ := h.running.clock_stays hseq hplace hlog
  have hrun := hstays.running h.running
  exact ⟨_, tr, hclock, hstays, ⟨hrun.valid, hrun.active, hstays.cfg ▸ h.noTimeout,
    h.busy.takeInput.shiftSync (busyWaitAction_kept _), r, hstays.todo.trans htodo⟩, htr⟩

theorem Stuck.runs {s : State} (h : Stuck s) (n : Nat) :
    ∃ t tr, Runs n s t ∧ Stays tr s t ∧ Stuck t ∧ ∀ e ∈ tr, HangEvent s.cfg e := by
  induction n with
  | zero => exact ⟨s, [], .refl s, .refl h.running, h, List.forall_mem_nil _⟩
  | succ n ih =>
    obtain ⟨t, tr, hruns, hstays, ht, htr⟩ := ih
    obtain ⟨u, tr', hclock, hstays', hu, htr'⟩ := ht.clock
    rw [hstays.cfg] at htr'
    exact ⟨u, tr' ++ tr, hruns.trans (.single hclock), hstays.trans hstays', hu, List.forall_mem_append.mpr ⟨htr', htr⟩⟩

/-- Wherever a number of clocks leads from a stuck busy-wait, it is stuck. -/
theorem Stuck.of_runs {n : Nat} {s t : State} (h : Stuck s) (hruns : Runs n s t) : Stuck t := by
  obtain ⟨u, -, hruns', -, hu, -⟩ := h.runs n
  cases hruns.symm.trans hruns'
  exact hu

/-- Each round of a stuck busy-wait is one more sample. -/
theorem Stuck.samples {s : State} (h : Stuck s) (hoff : s.delayOn = false) (k : Nat) :
    ∃ n t tr, Runs n s t ∧ t.log = tr ++ s.log ∧ k ≤ tr.count (.poll true) := by
  induction k generalizing s with
  | zero => exact ⟨0, s, [], .refl s, rfl, Nat.zero_le _⟩
  | succ k ih =>
    obtain ⟨r, htodo⟩ := h.todo
    obtain ⟨t, hruns, hstays, hton, -⟩ := h.running.pollRound htodo hoff h.busy.takeInput.busySync
      (timedOut_eq_false_iff.mpr (by simp [h.noTimeout]))
    obtain ⟨n, u, tr, hruns', hlog, hk⟩ := ih (h.of_runs hruns) hton
    refine ⟨_, u, tr ++ [.delay s.cfg.busyPollMs, .poll true], hruns.trans hruns', ?_, ?_⟩
    · rw [hlog, hstays.log, List.append_assoc]
    · simpa using hk

/-- Settles O34: no clock takes a stuck busy-wait from its place; and once a poll delay that runs has ended, each round of a
sample and its delay adds a sample. -/
theorem stuckBusyHangs : Obligations.StuckBusyHangs := by
  intro s r hvalid hactive hnone hbusy htodo
  have h : Stuck s := ⟨hvalid, hactive, hnone, hbusy, r, htodo⟩
  refine ⟨fun n => ?_, fun k => ?_⟩
  · obtain ⟨t, tr, hruns, hstays, -, htr⟩ := h.runs n
    obtain ⟨hact, htodo', hstep, -, hlife, -, hresult, hdone, -, hlines, -⟩ := hstays.place
    exact ⟨t, hruns, hact, hdone, htodo', hstep, hlife, hresult, hlines, tr, hstays.log, htr⟩
  · cases hon : s.delayOn with
    | false =>
      obtain ⟨n, t, tr, hruns, hlog, hk⟩ := h.samples hon k
      exact ⟨n, t, tr, hruns, hlog, hk⟩
    | true =>
      obtain ⟨t, hruns, hstays, hton, -⟩ := h.running.pollDelay_ends htodo hon
      obtain ⟨n, u, tr, hruns', hlog, hk⟩ := (h.of_runs hruns).samples hton k
      refine ⟨_, u, tr ++ [.delay s.cfg.busyPollMs], hruns.trans hruns', ?_, ?_⟩
      · rw [hlog, hstays.log, List.append_assoc]
      · simpa using hk

end Sys2Proof.Machine
end

section
/-! PROOFS. The traces of RESET, INIT and DISPLAY_PARTIAL (R146, R147, R205, R206, R210-R212, R218): the trace of each
procedure, once, and the action lists as the procedures one after the other. -/

namespace Sys2Proof.Machine

/-! ### The bytes of a window (R96, R97) and of a parameter -/

/-- R96 of a number: dividing by 8 comes before the cut to a byte. -/
theorem xByte_ofNat (n : Nat) : xByte (BitVec.ofNat 16 n) = BitVec.ofNat 8 (n / 8) := by
  refine BitVec.eq_of_toNat_eq ?_
  rw [xByte_toNat, BitVec.toNat_ofNat, BitVec.toNat_ofNat]
  omega

/-- R97 of a number. -/
theorem yBytes_ofNat (n : Nat) : yBytes (BitVec.ofNat 16 n) = [BitVec.ofNat 8 n, BitVec.ofNat 8 (n / 256)] := by
  have hlow : n % 65536 % 256 = n % 256 := by omega
  have hhigh : n % 65536 / 256 = n / 256 % 256 := by omega
  refine List.map_injective_iff.mpr (fun _ _ => BitVec.eq_of_toNat_eq) ?_
  simp [yBytes_toNat, hlow, hhigh]

theorem vector_toList_eq_ofFn {α : Type} {n : Nat} (v : Vector α n) : v.toList = List.ofFn fun i : Fin n => v[i] :=
  List.ext_getElem (by simp) (by simp)

/-! ### The trace of a procedure

Each is the computation of `itemTrace` along the procedure's entries: their bytes are constants, so the decoder answers. -/

theorem resetSeq_trace (s : State) : planTrace s (resetSeq s.cfg) =
    [.rst true, .delay s.cfg.resetHi1Ms, .rst false, .delay s.cfg.resetLoMs, .rst true, .delay s.cfg.resetHi2Ms,
      .frame .cmd [0x12#8], .poll false] := rfl

theorem shortResetPulse_trace (s : State) : planTrace s (shortResetPulse s.cfg) =
    [.rst false, .delay s.cfg.shortLoMs, .rst true, .delay s.cfg.shortHiMs] := rfl

theorem setWindowProc_trace (s : State) (xs ys xe ye : Half) : planTrace s (setWindowProc xs ys xe ye) =
    [.frame .cmd [0x44#8], .frame .data [xByte xs], .frame .data [xByte xe], .frame .cmd [0x45#8]]
      ++ (yBytes ys ++ yBytes ye).map fun b => .frame .data [b] := rfl

theorem fullWindowProc_trace (s : State) : planTrace s (fullWindowProc s.cfg) =
    [.frame .cmd [0x44#8], .frame .data [0x00#8], .frame .data [BitVec.ofNat 8 ((s.cfg.width - 1) / 8)],
      .frame .cmd [0x45#8], .frame .data [0x00#8], .frame .data [0x00#8],
      .frame .data [BitVec.ofNat 8 (s.cfg.height - 1)], .frame .data [BitVec.ofNat 8 ((s.cfg.height - 1) / 256)]] := by
  simp only [fullWindowProc, setWindowProc_trace, xByte_ofNat, yBytes_ofNat]
  rfl

theorem setCursorProc_trace (s : State) (x y : Half) : planTrace s (setCursorProc x y) =
    [.frame .cmd [0x4E#8], .frame .data [xByte x], .frame .cmd [0x4F#8]]
      ++ ((yBytes y).map fun b => .frame .data [b]) ++ [.poll false] := rfl

theorem setLutProc_trace (s : State) (t : Lut) : planTrace s (setLutProc t) =
    [.frame .cmd [0x32#8], .frame .data ((lutTable s.cfg t).toList.take 153), .poll false,
      .frame .cmd [0x3F#8], .frame .data [(lutTable s.cfg t)[153]],
      .frame .cmd [0x03#8], .frame .data [(lutTable s.cfg t)[154]],
      .frame .cmd [0x04#8], .frame .data [(lutTable s.cfg t)[155]], .frame .data [(lutTable s.cfg t)[156]],
      .frame .data [(lutTable s.cfg t)[157]],
      .frame .cmd [0x2C#8], .frame .data [(lutTable s.cfg t)[158]]] := rfl

theorem activateProc_trace (s : State) (v : Activation) : planTrace s (activateProc v) =
    [.frame .cmd [0x22#8], .frame .data [activationByte v], .frame .cmd [0x20#8], .poll false] := rfl

theorem configureProc_trace (s : State) : planTrace s (configureProc s.cfg) =
    [.frame .cmd [0x01#8], .frame .data [s.cfg.drvOutCtrlData[0]], .frame .data [s.cfg.drvOutCtrlData[1]],
        .frame .data [s.cfg.drvOutCtrlData[2]], .frame .cmd [0x11#8], .frame .data [s.cfg.dataEntryMode]]
      ++ planTrace s (fullWindowProc s.cfg)
      ++ [.frame .cmd [0x21#8], .frame .data [s.cfg.dispUpdCtrl1Data[0]], .frame .data [s.cfg.dispUpdCtrl1Data[1]]]
      ++ planTrace s (setCursorProc 0#16 0#16) := by
  have hparams : planTrace s [.setState .configuring, .cmd 0x01#8 {}, .cmd 0x11#8 {}] =
      .frame .cmd [0x01#8] :: (s.cfg.drvOutCtrlData.toList.map fun b => .frame .data [b])
        ++ [.frame .cmd [0x11#8], .frame .data [s.cfg.dataEntryMode]] := rfl
  have hupdate : planTrace s [.cmd 0x21#8 {}] =
      .frame .cmd [0x21#8] :: s.cfg.dispUpdCtrl1Data.toList.map fun b => .frame .data [b] := List.append_nil _
  rw [configureProc, planTrace_append, planTrace_append, planTrace_append, hparams, hupdate, vector_toList_eq_ofFn,
    vector_toList_eq_ofFn]
  rfl

/-- R241, R243: the image bytes in native order, from the latched base. -/
theorem writeImageProc_trace (s : State) (bank : Byte) (hbank : bank = 0x24#8 ∨ bank = 0x26#8) :
    planTrace s (writeImageProc bank) = .frame .cmd [bank] :: (List.range s.cfg.imgBytes).map fun k =>
      .frame .data [s.mem.read ((s.lImgBase.toNat + imageIndex s.cfg k) % 2 ^ 32)] := by
  have htrace : planTrace s (writeImageProc bank) = .frame .cmd [bank] :: dataTrace s .image := by
    rcases hbank with rfl | rfl <;> exact List.append_nil _
  simp only [htrace, dataTrace, imageAddr_toNat]

/-! ### The traces of the operations -/

/-- Settles O54: RESET is `reset_seq`; INIT is `reset_seq`, `configure` and the load of the FULL table, one after the other. -/
theorem resetAndInitTraces : Obligations.ResetAndInitTraces := by
  intro s _
  refine ⟨rfl, ?_⟩
  rw [planOf_init, initPlan, planTrace_append, planTrace_append, planTrace_append, resetSeq_trace, configureProc_trace,
    fullWindowProc_trace, setCursorProc_trace, setLutProc_trace]
  rfl

/-- The LUT load and the short pulse of DISPLAY_PARTIAL, in either order (R218). -/
theorem partialLoad_trace (s : State) : planTrace s (partialLoad s.cfg) =
    if s.cfg.partialPulseBeforeLut then planTrace s (shortResetPulse s.cfg) ++ planTrace s (setLutProc .part)
    else planTrace s (setLutProc .part) ++ planTrace s (shortResetPulse s.cfg) := by
  rw [partialLoad, apply_ite (planTrace s), planTrace_append, planTrace_append]

theorem itemTrace_cmd {s : State} {b : Byte} {i : Instr} (a : Args)
    (hi : decode s.cfg.partialOptCmd (.commandByte b) = .ok i) :
    itemTrace s (.cmd b a) = .frame .cmd [b] :: dataTrace s (dataOf s.cfg a i) := by
  rw [itemTrace, commandData_of_decode a hi]

/-- `border()` and `opt_seq()` of DISPLAY_PARTIAL, in either order (R218). -/
theorem partialSetup_trace (s : State) (hp : s.cfg.valid = true) : planTrace s (partialSetup s.cfg) =
    let border : List LineEvent := [.frame .cmd [0x3C#8], .frame .data [s.cfg.borderWaveformData]]
    let opt : List LineEvent :=
      .frame .cmd [s.cfg.partialOptCmd] :: s.cfg.partialOptData.toList.map fun b => .frame .data [b]
    if s.cfg.partialOptBeforeBorder then opt ++ border else border ++ opt := by
  have hborder : itemTrace s (.cmd 0x3C#8 {}) = [.frame .cmd [0x3C#8], .frame .data [s.cfg.borderWaveformData]] := rfl
  have hopt := itemTrace_cmd {} (decode_partialOptCmd hp)
  rw [partialSetup, apply_ite (planTrace s)]
  simp only [planTrace, List.flatMap_cons, List.flatMap_nil, List.append_nil, hborder, hopt, dataOf, dataTrace]

/-- Settles O57: the action list is the procedures of R218 one after the other, the two optional orders in their place. -/
theorem displayPartialTrace : Obligations.DisplayPartialTrace := by
  intro s hp
  have hsplit : planTrace s (displayPartialPlan s) =
      planTrace s (partialLoad s.cfg) ++ planTrace s (partialSetup s.cfg) ++ planTrace s (activateProc .partialMode)
        ++ planTrace s (fullWindowProc s.cfg) ++ planTrace s (setCursorProc 0#16 0#16)
        ++ planTrace s (writeImageProc 0x24#8) ++ planTrace s (activateProc .part) := by
    simp only [displayPartialPlan, planTrace_append]
    exact List.append_nil _
  rw [planOf_displayPartial, hsplit, partialLoad_trace, partialSetup_trace s hp, activateProc_trace, fullWindowProc_trace,
    setCursorProc_trace, writeImageProc_trace s _ (.inl rfl), activateProc_trace, shortResetPulse_trace, setLutProc_trace]
  simp only [List.append_assoc, List.cons_append, List.nil_append]
  rfl

end Sys2Proof.Machine
end

section
/-! PROOFS. LUT_MODE (R38, R161, R163): in every action list the table named last is written where the frames of 0x2C end and
nowhere else, so the clock of the last LUT frame is the only one, block reset apart, that changes LUT_MODE. -/

namespace Sys2Proof.Machine

/-! ### LUT_MODE along an action list -/

/-- LUT_MODE once `settle` has taken up a list from LUT_MODE `m`. -/
@[simp] def lutTakenUp (m : Lut) : List Item → Lut
  | .setState _ :: r => lutTakenUp m r
  | .setLutMode t :: r => lutTakenUp t r
  | _ => m

theorem settle_lutMode (l : List Item) (s : State) : (settle l s).lutMode = lutTakenUp s.lutMode l := by
  induction l generalizing s with
  | nil => rfl
  | cons i r ih =>
    cases i with
    | setState x => exact ih { s with life := x }
    | setLutMode t => exact ih { s with lutMode := t }
    | _ => rfl

/-- LUT_MODE once an action is complete (R163): the table of 0x2C, the last command of `set_lut`. -/
@[simp] def Item.lutDone (m : Lut) : Item → Lut
  | .cmd b a => if b = 0x2C#8 then a.table else m
  | _ => m

/-- After each action of the list, what is taken up with its end gives LUT_MODE the value of R163. -/
@[simp] def LutFollows : List Item → Prop
  | [] => True
  | i :: r => (i.isAction = true → ∀ m, lutTakenUp m r = i.lutDone m) ∧ LutFollows r

theorem LutFollows.suffix {l l' : List Item} (h : LutFollows l') (hl : l <:+ l') : LutFollows l := by
  obtain ⟨done, rfl⟩ := hl
  induction done with
  | nil => exact h
  | cons i r ih =>
    obtain ⟨-, h⟩ := h
    exact ih h

theorem partialOptCmd_ne_vcom {p : Params} (hp : p.valid = true) : p.partialOptCmd ≠ 0x2C#8 := by
  intro h
  obtain ⟨-, -, -, -, -, -, hopt⟩ := (Params.valid_iff p).mp hp
  exact hopt (h ▸ by decide)

/-- Each of the ten action lists writes LUT_MODE where R161 says and nowhere else. -/
theorem planOf_lutFollows (op : BitVec 4) (s : State) (hop : legalOp op = true) (hp : s.cfg.valid = true) :
    LutFollows (planOf op s) := by
  induction op, hop using legalOp_cases with
  | displayPartial =>
    simp only [planOf_displayPartial, displayPartialPlan, partialLoad, partialSetup]
    split <;> split <;>
      simp [shortResetPulse, setLutProc, activateProc, fullWindowProc, setWindowProc, setCursorProc, writeImageProc,
        partialOptCmd_ne_vcom hp]
  | _ =>
    simp [resetPlan, initPlan, resetSeq, hwResetPulse, configureProc, fullWindowProc, setWindowPlan, setWindowProc,
      setCursorPlan, setCursorProc, setLutPlan, setLutProc, displayPlan, displayBasePlan, writeImageProc, activateProc,
      clearPlan, fillProc, sleepPlan]

/-- No operation writes LUT_MODE before its first action. -/
theorem planOf_lutTakenUp (op : BitVec 4) (s : State) (hop : legalOp op = true) (m : Lut) :
    lutTakenUp m (planOf op s) = m := by
  induction op, hop using legalOp_cases with
  | displayPartial =>
    simp only [planOf_displayPartial, displayPartialPlan, partialLoad]
    split <;> rfl
  | _ => rfl

/-! ### LUT_MODE through the phases of a clock -/

/-- The sequencer leaves the state alone, or it acts in a clock that began with the operation running and has no stall. -/
theorem sequencerPhase_acts {running stall : Bool} {s t : State} (h : sequencerPhase running stall s = .next t) :
    t = s ∨ (running = true ∧ stall = false ∧ sequencerAction s = .next t) := by
  unfold sequencerPhase at h
  split at h
  case isTrue hruns =>
    obtain ⟨hrunning, hstall⟩ : running = true ∧ stall = false := by simpa using hruns
    exact .inr ⟨hrunning, hstall, h⟩
  case isFalse =>
    cases h
    exact .inl rfl

theorem acceptCommand_lutMode (op : BitVec 4) (s : State) : (acceptCommand op (planOf op) s).lutMode = s.lutMode := by
  rcases acceptCommand_cases op (planOf op) s with ⟨-, e⟩ | ⟨-, r, -, -, e⟩ | ⟨-, hlegal, -, e⟩ <;> rw [e]
  · rfl
  · rw [settle_lutMode, planOf_lutTakenUp op _ hlegal, latch_lutMode]

theorem hostPhase_lutMode {access : Option Access} {s t : State} (h : hostPhase access s = .next t) :
    t.lutMode = s.lutMode := by
  rcases hostPhase_sequencer h with ⟨⟨-, -, -, -, -, -, -, -, -, -, hmode, -⟩, -⟩ | ⟨-, a, -, -, -, rfl⟩
  · exact hmode
  · exact acceptCommand_lutMode _ s

theorem samePoint.lutMode {s t : State} (h : samePoint s t) : t.lutMode = s.lutMode := by
  obtain ⟨-, -, -, -, -, -, -, hmode, -⟩ := h
  exact hmode

/-- The end of an action of a running operation gives LUT_MODE the value of R163. -/
theorem RunningOk.finishAction_lutMode {s w : State} {i : Item} {r : List Item} (h : RunningOk s)
    (hvalid : s.cfg.valid = true) (hw : samePoint s w) (htodo : s.todo = i :: r) (hi : i.isAction = true) :
    (finishAction w).lutMode = i.lutDone s.lutMode := by
  obtain ⟨-, hlegal, -, hsuffix, -⟩ := h
  obtain ⟨-, -, -, -, htodo', -, -, hmode, -⟩ := hw
  obtain ⟨hdone, -⟩ : LutFollows (i :: r) := htodo ▸ (planOf_lutFollows s.lOp s hlegal hvalid).suffix hsuffix
  rw [finishAction, settle_lutMode, htodo', htodo, ← hmode]
  exact hdone hi _

/-- The sequencer's action with the data frame of 0x2C due: it carries T[158] (R161). -/
theorem sequencerAction_vcomData {s : State} {a : Args} {r : List Item} (htodo : s.todo = .cmd 0x2C#8 a :: r)
    (hidx : s.frameIdx = 1) :
    sequencerAction s = .next (afterFrame 1 (emitFrame .data [(lutTable s.cfg a.table)[158]] s)) := by
  have hcount : (commandData s.cfg 0x2C#8 a).count s.cfg = 1 := rfl
  have hsent : sendDueFrame 0x2C#8 (commandData s.cfg 0x2C#8 a) s =
      emitFrame .data [(lutTable s.cfg a.table)[158]] s := sendDueFrame_succ hidx
  rw [sequencerAction_cmd (i := .writeVcom) htodo rfl, sendCommand_eq_afterFrame (hcount ▸ hidx.le), hcount, hsent]

/-- An action of the sequencer that changes LUT_MODE is the last frame of 0x2C, sent without a transport error. -/
theorem sequencerAction_lutMode {s t : State} (hrun : RunningOk s) (hvalid : s.cfg.valid = true)
    (h : sequencerAction s = .next t) (hne : t.lutMode ≠ s.lutMode) :
    ∃ a r, s.todo = .cmd 0x2C#8 a :: r ∧ s.frameIdx = 1 ∧ s.txErrI = false := by
  have hplace : ∃ a r, s.todo = .cmd 0x2C#8 a :: r ∧ s.frameIdx = 1 := by
    cases sequencerAction_acted h with
    | stays _ hpoint => exact absurd hpoint.lutMode hne
    | frame w _ _ _ hw => exact absurd hw.lutMode hne
    | aborts w _ hw => exact absurd hw.lutMode hne
    | finishes w i r hw _ htodo hi hidx =>
      rw [hrun.finishAction_lutMode hvalid hw htodo hi] at hne
      obtain ⟨-, -, -, -, hpos, -⟩ := hrun
      cases i with
      | cmd b a =>
        obtain rfl : b = 0x2C#8 := by_contra fun hb => hne (if_neg hb)
        exact ⟨a, r, htodo, Nat.succ.inj (hidx hpos)⟩
      | _ => exact absurd rfl hne
  obtain ⟨a, r, htodo, hidx⟩ := hplace
  refine ⟨a, r, htodo, hidx, Bool.eq_false_of_not_eq_true fun htx => hne ?_⟩
  rw [sequencerAction_vcomData htodo hidx, afterFrame_transportError 1 (s := emitFrame _ _ s) htx] at h
  cases h
  rfl

/-- Without a transport error the data frame of 0x2C ends with LUT_MODE = T (R163). -/
theorem sequencerAction_lastLutFrame {s t : State} {a : Args} {r : List Item} (hrun : RunningOk s)
    (hvalid : s.cfg.valid = true) (htodo : s.todo = .cmd 0x2C#8 a :: r) (hidx : s.frameIdx = 1) (htx : s.txErrI = false)
    (h : sequencerAction s = .next t) :
    t.lutMode = a.table ∧ t.log = .frame .data [(lutTable s.cfg a.table)[158]] :: s.log := by
  rw [sequencerAction_vcomData htodo hidx, afterFrame_emitFrame _ _ _ htx, if_neg hidx.not_lt] at h
  cases h
  exact ⟨hrun.finishAction_lutMode hvalid (emitFrame_samePoint _ _ s) htodo rfl, finishAction_log _⟩

theorem statusWord_lutMode (s : State) : (statusWord s).getLsbD 2 = true ↔ s.lutMode = .part := by
  obtain ⟨-, -, -, -, hmode, -⟩ := statusLayout s
  exact hmode

/-- Settles O47: the host's access keeps LUT_MODE, and so does every action of the sequencer but the data frame of 0x2C, which
writes it when no transport error follows. -/
theorem lutModeOnlyAfterLastLutFrame : Obligations.LutModeOnlyAfterLastLutFrame := by
  intro s t hinv hrst h
  obtain ⟨u, v, hu, hv, rfl⟩ := step_phases hrst h
  have hinv' := hostPhase_inv (takeInput_inv hinv) hu
  have hmode : u.lutMode = s.lutMode := hostPhase_lutMode (s := s.takeInput) hu
  obtain ⟨⟨hcfg, -, -, -, -, -, htx, -⟩, hlog, -⟩ := hostPhase_outside hu
  have running (hactive : s.active = true) : RunningOk u ∧ u.todo = s.todo ∧ u.frameIdx = s.frameIdx := by
    obtain ⟨⟨hact, -, -, htodo, hidx, -⟩, -⟩ := hostPhase_running (s := s.takeInput) hactive hu
    exact ⟨hinv'.running (hact.trans hactive), htodo, hidx⟩
  refine ⟨fun a r hactive hhead hlast hstall hok => ?_, fun hne => ?_⟩
  · obtain ⟨hrun, htodo, hidx⟩ := running hactive
    have hact : sequencerAction u = .next v := by simpa [sequencerPhase, hactive, hstall] using hv
    obtain ⟨hmode', hlog'⟩ := sequencerAction_lastLutFrame hrun hinv'.cfg_valid (htodo.trans hhead) (hidx.trans hlast)
      (htx.trans hok) hact
    rw [hcfg, hlog] at hlog'
    exact ⟨hmode', (statusWord_lutMode _).trans (by rw [shiftSync_lutMode, hmode']), hlog'⟩
  · rw [shiftSync_lutMode, ← hmode] at hne
    obtain ⟨hactive, hstall, hact⟩ := (sequencerPhase_acts hv).resolve_left fun hsame => hne (congrArg State.lutMode hsame)
    obtain ⟨hrun, htodo, hidx⟩ := running hactive
    obtain ⟨a, r, hhead, hlast, hok⟩ := sequencerAction_lutMode hrun hinv'.cfg_valid hact hne
    exact ⟨hactive, hidx.symm.trans hlast, hstall, htx.symm.trans hok, a, r, htodo.symm.trans hhead⟩

end Sys2Proof.Machine
end

section
/-! PROOFS. The frames of the panel commands (R171-R182, R188-R190): the data of each command as explicit bytes, the address
bytes as quotients of the coordinates (R96, R97), and a colour as IMG_BYTES equal frames (R245). -/

namespace Sys2Proof.Machine

/-! ### The data of the commands with arguments -/

theorem xByte_eq_ofNat (x : Half) : xByte x = BitVec.ofNat 8 (x.toNat / 8) := by
  simpa using xByte_ofNat x.toNat

theorem yBytes_eq_ofNat (y : Half) : yBytes y = [BitVec.ofNat 8 y.toNat, BitVec.ofNat 8 (y.toNat / 256)] := by
  simpa using yBytes_ofNat y.toNat

theorem windowXData_eq_ofNat (a : Args) :
    windowXData a = .each [BitVec.ofNat 8 (a.xs.toNat / 8), BitVec.ofNat 8 (a.xe.toNat / 8)] := by
  rw [windowXData, xByte_eq_ofNat, xByte_eq_ofNat]

theorem windowYData_eq_ofNat (a : Args) :
    windowYData a = .each [BitVec.ofNat 8 a.ys.toNat, BitVec.ofNat 8 (a.ys.toNat / 256), BitVec.ofNat 8 a.ye.toNat,
      BitVec.ofNat 8 (a.ye.toNat / 256)] := by
  rw [windowYData, yBytes_eq_ofNat, yBytes_eq_ofNat]
  rfl

theorem cursorXData_eq_ofNat (a : Args) : cursorXData a = .each [BitVec.ofNat 8 (a.x.toNat / 8)] := by
  rw [cursorXData, xByte_eq_ofNat]

theorem cursorYData_eq_ofNat (a : Args) :
    cursorYData a = .each [BitVec.ofNat 8 a.y.toNat, BitVec.ofNat 8 (a.y.toNat / 256)] := by
  rw [cursorYData, yBytes_eq_ofNat]

theorem ramData_of_fill {a : Args} {c : Byte} (h : a.source = .fill c) : ramData a = .fill c := by
  rw [ramData, h]

/-! ### The data of the commands with parameters -/

theorem deepSleepFrames_of_none {p : Params} (h : p.deepSleepData = none) : deepSleepFrames p = .each [] := by
  rw [deepSleepFrames, h]

theorem deepSleepFrames_of_some {p : Params} {b : Byte} (h : p.deepSleepData = some b) : deepSleepFrames p = .each [b] := by
  rw [deepSleepFrames, h]

/-- The data frames of a parameter of `n` bytes are its bytes from 0 to `n - 1`. -/
theorem sendsFrames_vector {i : Instr} {b : Byte} {n : Nat} {v : Vector Byte n} {s : State}
    (hexec : exec i s = sendCommand b (.each v.toList) s) :
    SendsFrames i ((.cmd, [b]) :: (List.ofFn fun k : Fin n => v[k]).map fun x => (.data, [x])) s :=
  vector_toList_eq_ofFn v ▸ sendsFrames_each hexec

/-! ### The frames of a fill (R245) -/

theorem commandFrames_fill (b c : Byte) (s : State) :
    commandFrames b (.fill c) s = (.cmd, [b]) :: List.replicate s.cfg.imgBytes (.data, [c]) := by
  simp [commandFrames, dataFrame, FrameData.count]

theorem sendsFrames_fill {i : Instr} {b c : Byte} {s : State} (hexec : exec i s = sendCommand b (.fill c) s) :
    SendsFrames i ((.cmd, [b]) :: List.replicate s.cfg.imgBytes (.data, [c])) s :=
  commandFrames_fill b c s ▸ sendsFrames_of_exec hexec fun _ => rfl

/-! ### The commands -/

/-- Settles O23: each command sends the bytes of its parameter one a frame; DEEP_SLEEP_DATA, where there is none, sends no data
frame. -/
theorem parameterCommandFrames : Obligations.ParameterCommandFrames := by
  intro s
  exact ⟨sendsFrames_each (bs := []) rfl, sendsFrames_vector (i := .driverOutputControl) rfl,
    sendsFrames_each (i := .dataEntryMode) (bs := [s.cfg.dataEntryMode]) rfl,
    sendsFrames_vector (i := .displayUpdateControl1) rfl, sendsFrames_each (bs := []) rfl,
    sendsFrames_each (i := .borderWaveform) (bs := [s.cfg.borderWaveformData]) rfl,
    fun hnone =>
      sendsFrames_each (i := .deepSleep) (congrArg (sendCommand 0x10#8 · s) (deepSleepFrames_of_none hnone)),
    fun _ hsome =>
      sendsFrames_each (i := .deepSleep) (congrArg (sendCommand 0x10#8 · s) (deepSleepFrames_of_some hsome)),
    sendsFrames_each rfl⟩

/-- Settles O24: the coordinates and the activation are those of the current action's arguments. -/
theorem argumentCommandFrames : Obligations.ArgumentCommandFrames := by
  intro s b a r htodo
  obtain rfl : s.args = a := args_eq htodo
  have hselect {v : Activation} (h : s.args.activation = v) :
      SendsFrames .displayUpdateControl2 [(.cmd, [0x22#8]), (.data, [activationByte v])] s :=
    h ▸ sendsFrames_each (i := .displayUpdateControl2) (s := s) rfl
  exact ⟨sendsFrames_each (i := .ramWindowX) (congrArg (sendCommand 0x44#8 · s) (windowXData_eq_ofNat s.args)),
    sendsFrames_each (i := .ramWindowY) (congrArg (sendCommand 0x45#8 · s) (windowYData_eq_ofNat s.args)),
    sendsFrames_each (i := .ramCursorX) (congrArg (sendCommand 0x4E#8 · s) (cursorXData_eq_ofNat s.args)),
    sendsFrames_each (i := .ramCursorY) (congrArg (sendCommand 0x4F#8 · s) (cursorYData_eq_ofNat s.args)),
    hselect, hselect, hselect⟩

/-- Settles O26: the source of the current action's arguments is the colour, and it is the data of both banks' commands. -/
theorem fillCommandFrames : Obligations.FillCommandFrames := by
  intro s b c a r htodo hfill
  have hdata : ramData s.args = .fill c := ramData_of_fill (args_eq htodo ▸ hfill)
  exact ⟨sendsFrames_fill (congrArg (sendCommand 0x24#8 · s) hdata),
    sendsFrames_fill (congrArg (sendCommand 0x26#8 · s) hdata)⟩

end Sys2Proof.Machine
end

section
/-! PROOFS. Whole operations of the controller: the traces of SET_WINDOW, SET_CURSOR, SET_LUT, SLEEP, DISPLAY, DISPLAY_BASE and
CLEAR (R207-R209, R213-R217, R219, R220), from the traces of their procedures. -/

namespace Sys2Proof.Machine

/-! ### The address bytes of a latched register (R41, R42, R96, R97) -/

theorem loHalf_toNat (w : Word) : (loHalf w).toNat = w.toNat % 65536 := by
  simp [loHalf, BitVec.extractLsb'_toNat]

theorem hiHalf_toNat (w : Word) : (hiHalf w).toNat = w.toNat / 65536 := by
  have hlt : w.toNat / 65536 < 65536 := by omega
  simp [hiHalf, BitVec.extractLsb'_toNat, Nat.shiftRight_eq_div_pow, Nat.mod_eq_of_lt hlt]

theorem xByte_loHalf (w : Word) : xByte (loHalf w) = BitVec.ofNat 8 (w.toNat % 65536 / 8) := by
  rw [xByte_eq_ofNat, loHalf_toNat]

theorem xByte_hiHalf (w : Word) : xByte (hiHalf w) = BitVec.ofNat 8 (w.toNat / 65536 / 8) := by
  rw [xByte_eq_ofNat, hiHalf_toNat]

theorem yBytes_loHalf (w : Word) :
    yBytes (loHalf w) = [BitVec.ofNat 8 w.toNat, BitVec.ofNat 8 (w.toNat / 256)] := by
  have hcut : loHalf w = BitVec.ofNat 16 w.toNat := BitVec.eq_of_toNat_eq (by rw [loHalf_toNat, BitVec.toNat_ofNat])
  rw [hcut, yBytes_ofNat]

theorem yBytes_hiHalf (w : Word) :
    yBytes (hiHalf w) = [BitVec.ofNat 8 (w.toNat / 65536), BitVec.ofNat 8 (w.toNat / 16777216)] := by
  rw [yBytes_eq_ofNat, hiHalf_toNat, Nat.div_div_eq_div_mul]

/-! ### Traces -/

/-- Settles O55: SET_WINDOW, SET_CURSOR and SET_LUT are their procedures, called with the latched arguments. -/
theorem argumentOperationTraces : Obligations.ArgumentOperationTraces := by
  intro s _
  have htable : lutTable s.cfg s.lTable = if s.lTable = .full then s.cfg.lutFull else s.cfg.lutPartial := by
    cases s.lTable <;> rfl
  refine ⟨?_, ?_, ?_, rfl⟩
  · rw [planOf_setWindow, setWindowPlan, setWindowProc_trace, xByte_loHalf, xByte_hiHalf, yBytes_loHalf, yBytes_hiHalf]
    rfl
  · rw [planOf_setCursor, setCursorPlan, setCursorProc_trace, xByte_loHalf, yBytes_hiHalf]
    rfl
  · rw [planOf_setLut, setLutPlan, planTrace_append, setLutProc_trace, htable]
    rfl

/-- R245: IMG_BYTES copies of the colour. -/
theorem fillProc_trace (s : State) (bank c : Byte) (hbank : bank = 0x24#8 ∨ bank = 0x26#8) :
    planTrace s (fillProc bank c) = .frame .cmd [bank] :: List.replicate s.cfg.imgBytes (.frame .data [c]) := by
  rcases hbank with rfl | rfl <;> exact List.append_nil _

/-- A change of STATE sends nothing. -/
theorem planTrace_setState (s : State) (x : LifeState) (l : List Item) :
    planTrace s (.setState x :: l) = planTrace s l := rfl

theorem planTrace_nil (s : State) : planTrace s [] = [] := rfl

/-- The shape of DISPLAY, DISPLAY_BASE and CLEAR (R216, R217, R219): RAM banks are written, and the full activation follows. -/
def redrawPlan (banks : List Item) : List Item :=
  .setState .displaying :: (banks ++ activateProc .full ++ [.setState .lutLoaded])

theorem displayPlan_eq_redrawPlan (s : State) : displayPlan s = redrawPlan (writeImageProc 0x24#8) := rfl

theorem displayBasePlan_eq_redrawPlan (s : State) :
    displayBasePlan s = redrawPlan (writeImageProc 0x24#8 ++ writeImageProc 0x26#8) := rfl

theorem clearPlan_eq_redrawPlan (s : State) :
    clearPlan s = redrawPlan (fillProc 0x24#8 s.lColour ++ fillProc 0x26#8 s.lColour) := rfl

theorem redrawPlan_trace (s : State) (banks : List Item) : planTrace s (redrawPlan banks) =
    planTrace s banks ++ [.frame .cmd [0x22#8], .frame .data [0xC7#8], .frame .cmd [0x20#8], .poll false] := by
  simp only [redrawPlan, planTrace_setState, planTrace_append, activateProc_trace, planTrace_nil, List.append_nil]
  rfl

/-- Settles O56: the banks are written, with the image or with the colour, and the panel is activated; nothing goes before. -/
theorem fullRedrawTraces : Obligations.FullRedrawTraces := by
  intro s _
  refine ⟨?_, ?_, ?_⟩
  · rw [planOf_display, displayPlan_eq_redrawPlan, redrawPlan_trace, writeImageProc_trace s _ (.inl rfl)]
    rfl
  · rw [planOf_displayBase, displayBasePlan_eq_redrawPlan, redrawPlan_trace, planTrace_append,
      writeImageProc_trace s _ (.inl rfl), writeImageProc_trace s _ (.inr rfl)]
    rfl
  · rw [planOf_clear, clearPlan_eq_redrawPlan, redrawPlan_trace, planTrace_append, fillProc_trace s _ _ (.inl rfl),
      fillProc_trace s _ _ (.inr rfl)]
    rfl

end Sys2Proof.Machine
end

section
/-! PROOFS. How many actions and image reads each operation has (R221): the size of each procedure, once, and the sum over the
procedures of an action list. -/

namespace Sys2Proof.Machine

/-! ### Actions -/

theorem activateProc_count (p : Params) (v : Activation) : actionCount p (activateProc v) = 4 := rfl

theorem writeImageProc_count (p : Params) (bank : Byte) (hbank : bank = 0x24#8 ∨ bank = 0x26#8) :
    actionCount p (writeImageProc bank) = 1 + p.imgBytes := by
  rcases hbank with rfl | rfl <;> rfl

theorem fillProc_count (p : Params) (bank c : Byte) (hbank : bank = 0x24#8 ∨ bank = 0x26#8) :
    actionCount p (fillProc bank c) = 1 + p.imgBytes := by
  rcases hbank with rfl | rfl <;> rfl

theorem redrawPlan_count (p : Params) (banks : List Item) :
    actionCount p (redrawPlan banks) = actionCount p banks + 4 := by
  simp [redrawPlan, activateProc_count]

theorem displayPlan_count (s : State) : actionCount s.cfg (displayPlan s) = s.cfg.imgBytes + 5 := by
  rw [displayPlan_eq_redrawPlan, redrawPlan_count, writeImageProc_count _ _ (.inl rfl)]
  omega

theorem displayBasePlan_count (s : State) : actionCount s.cfg (displayBasePlan s) = 2 * s.cfg.imgBytes + 6 := by
  rw [displayBasePlan_eq_redrawPlan, redrawPlan_count, actionCount_append, writeImageProc_count _ _ (.inl rfl),
    writeImageProc_count _ _ (.inr rfl)]
  omega

theorem clearPlan_count (s : State) : actionCount s.cfg (clearPlan s) = 2 * s.cfg.imgBytes + 6 := by
  rw [clearPlan_eq_redrawPlan, redrawPlan_count, actionCount_append, fillProc_count _ _ _ (.inl rfl),
    fillProc_count _ _ _ (.inr rfl)]
  omega

/-- R189: the frame 0x10 has at most one byte of data. -/
theorem sleepPlan_count (s : State) :
    actionCount s.cfg (sleepPlan s) = (if s.cfg.deepSleepData = none then 1 else 2) + 2 := by
  have hdata : (commandData s.cfg 0x10#8 {}).count s.cfg = s.cfg.deepSleepData.toList.length := rfl
  cases hd : s.cfg.deepSleepData <;> simp [sleepPlan, hdata, hd]

theorem setLutPlan_count (s : State) : actionCount s.cfg (setLutPlan s) = 13 := by
  simp [setLutPlan, setLutProc_count]

/-! ### Image reads -/

@[simp] theorem planReads_nil (s : State) : planReads s [] = [] := rfl

@[simp] theorem planReads_append (s : State) (l l' : List Item) :
    planReads s (l ++ l') = planReads s l ++ planReads s l' :=
  List.flatMap_append

/-- A change of STATE reads nothing. -/
@[simp] theorem planReads_setState (s : State) (x : LifeState) (l : List Item) :
    planReads s (.setState x :: l) = planReads s l := rfl

theorem writeImageProc_reads (s : State) (bank : Byte) (hbank : bank = 0x24#8 ∨ bank = 0x26#8) :
    planReads s (writeImageProc bank) = dataReads s .image := by
  rcases hbank with rfl | rfl <;> exact List.append_nil _

theorem dataReads_image_length (s : State) : (dataReads s .image).length = s.cfg.imgBytes := by
  simp [dataReads]

@[simp] theorem activateProc_reads (s : State) (v : Activation) : planReads s (activateProc v) = [] := rfl
@[simp] theorem fullWindowProc_reads (s : State) : planReads s (fullWindowProc s.cfg) = [] := rfl
@[simp] theorem setCursorProc_reads (s : State) (x y : Half) : planReads s (setCursorProc x y) = [] := rfl

theorem partialLoad_reads (s : State) : planReads s (partialLoad s.cfg) = [] := by
  unfold partialLoad
  split <;> rfl

theorem partialSetup_reads (s : State) (hp : s.cfg.valid = true) : planReads s (partialSetup s.cfg) = [] := by
  have hborder : itemReads s (.cmd 0x3C#8 {}) = [] := rfl
  have hopt : itemReads s (.cmd s.cfg.partialOptCmd {}) = [] := by
    rw [itemReads, commandData_of_decode _ (decode_partialOptCmd hp)]
    rfl
  unfold partialSetup
  split <;> simp [planReads, hborder, hopt]

theorem redrawPlan_reads (s : State) (banks : List Item) : planReads s (redrawPlan banks) = planReads s banks := by
  simp [redrawPlan]

theorem displayPlan_reads (s : State) : planReads s (displayPlan s) = dataReads s .image := by
  rw [displayPlan_eq_redrawPlan, redrawPlan_reads, writeImageProc_reads s _ (.inl rfl)]

theorem displayBasePlan_reads (s : State) :
    planReads s (displayBasePlan s) = dataReads s .image ++ dataReads s .image := by
  rw [displayBasePlan_eq_redrawPlan, redrawPlan_reads, planReads_append, writeImageProc_reads s _ (.inl rfl),
    writeImageProc_reads s _ (.inr rfl)]

theorem displayPartialPlan_reads (s : State) (hp : s.cfg.valid = true) :
    planReads s (displayPartialPlan s) = dataReads s .image := by
  simp [displayPartialPlan, partialLoad_reads, partialSetup_reads s hp, writeImageProc_reads]

/-- Settles O58: the sizes of the procedures of each action list, added up. -/
theorem operationSizes : Obligations.OperationSizes := by
  intro s hp
  refine ⟨rfl, initPlan_count s, rfl, rfl, setLutPlan_count s, displayPlan_count s, displayBasePlan_count s,
    displayPartialPlan_count s hp, clearPlan_count s, sleepPlan_count s, ?_, ?_, ?_, ?_⟩
  · rw [planOf_display, displayPlan_reads, dataReads_image_length]
    rfl
  · rw [planOf_displayBase, displayBasePlan_reads, List.length_append, dataReads_image_length, ← Nat.two_mul]
    rfl
  · rw [planOf_displayPartial, displayPartialPlan_reads s hp, dataReads_image_length]
    rfl
  · simp only [List.forall_mem_cons]
    exact ⟨rfl, rfl, rfl, rfl, rfl, rfl, rfl, nofun⟩

end Sys2Proof.Machine
end

section
/-! PROOFS. STATE while an operation runs (R201, R202, R268): in every action list what is taken up with the end of an action
leaves STATE, INIT apart, until the list is over and gives it R201's last column. -/

namespace Sys2Proof.Machine

/-! ### STATE along an action list -/

/-- In an operation `i`, from STATE `y`, taking up the list leads to an action with STATE `x`, INIT apart, or ends the operation
with what R201's last column gives after `x`. -/
@[simp] def LifeTakenUp (i : Instr) (x : LifeState) : List Item → LifeState → Prop
  | [], y => y = lifeAtEnd i x
  | .setState z :: r, _ => LifeTakenUp i x r z
  | .setLutMode _ :: r, y => LifeTakenUp i x r y
  | _ :: _, y => i ≠ .init → y = x

/-- What is taken up with the end of each action of the list treats STATE as `LifeTakenUp` says. -/
@[simp] def LifeStays (i : Instr) : List Item → Prop
  | [] => True
  | j :: r => (j.isAction = true → ∀ x, LifeTakenUp i x r x) ∧ LifeStays i r

theorem LifeStays.suffix {i : Instr} {l l' : List Item} (h : LifeStays i l') (hl : l <:+ l') : LifeStays i l := by
  obtain ⟨done, rfl⟩ := hl
  induction done with
  | nil => exact h
  | cons j r ih =>
    obtain ⟨-, h⟩ := h
    exact ih h

/-- Each of the ten action lists writes STATE where R205-R220 say and nowhere else. -/
theorem planOf_lifeStays {op : BitVec 4} {i : Instr} (hi : hostOpOf op = some i) (s : State) :
    LifeStays i (planOf op s) := by
  have hop : legalOp op = true := by simp [legalOp, hi]
  induction op, hop using legalOp_cases <;> cases hi
  case displayPartial =>
    simp only [planOf_displayPartial, displayPartialPlan, partialLoad, partialSetup]
    split <;> split <;>
      simp [shortResetPulse, setLutProc, activateProc, fullWindowProc, setWindowProc, setCursorProc, writeImageProc,
        lifeAtEnd]
  all_goals
    simp [resetPlan, initPlan, resetSeq, hwResetPulse, configureProc, fullWindowProc, setWindowPlan, setWindowProc,
      setCursorPlan, setCursorProc, setLutPlan, setLutProc, displayPlan, displayBasePlan, writeImageProc, activateProc,
      clearPlan, fillProc, sleepPlan, lifeAtEnd]

/-! ### STATE through the phases of a clock -/

/-- From STATE `x` of a running operation `i`, INIT apart, `t` has the STATE of R201, or FAULT after an abort (R268). -/
structure LifeKept (i : Instr) (x : LifeState) (t : State) : Prop where
  running : t.active = true → i ≠ .init → t.life = x
  ok : t.active = false → t.result = .ok → t.life = lifeAtEnd i x
  aborted : t.active = false → t.result ≠ .ok → t.life = .fault

theorem LifeKept.of_active {i : Instr} {x : LifeState} {t : State} (hactive : t.active = true)
    (hlife : i ≠ .init → t.life = x) : LifeKept i x t where
  running _ := hlife
  ok hidle := absurd (hactive.symm.trans hidle) Bool.noConfusion
  aborted hidle := absurd (hactive.symm.trans hidle) Bool.noConfusion

theorem LifeTakenUp.lifeKept {i : Instr} {x : LifeState} {l : List Item} {s : State} (h : LifeTakenUp i x l s.life)
    (hactive : s.active = true) : LifeKept i x (settle l s) := by
  induction l generalizing s with
  | nil => exact ⟨nofun, fun _ _ => h, fun _ hne => absurd rfl hne⟩
  | cons j r ih =>
    cases j with
    | setState y => exact ih (s := { s with life := y }) h hactive
    | setLutMode m => exact ih (s := { s with lutMode := m }) h hactive
    | _ => exact .of_active hactive h

theorem RunningOk.finishAction_life {s w : State} {i : Instr} {j : Item} {r : List Item} (h : RunningOk s)
    (hactive : s.active = true) (hi : hostOpOf s.lOp = some i) (hw : samePoint s w) (htodo : s.todo = j :: r)
    (hj : j.isAction = true) : LifeKept i s.life (finishAction w) := by
  obtain ⟨-, -, -, hsuffix, -⟩ := h
  obtain ⟨-, hact, -, -, htodo', -, hlife, -⟩ := hw
  obtain ⟨hstays, -⟩ : LifeStays i (j :: r) := htodo ▸ (planOf_lifeStays hi s).suffix hsuffix
  have htakenUp : LifeTakenUp i s.life r w.life := hlife ▸ hstays hj w.life
  have hrest : w.todo.tail = r := by
    rw [htodo', htodo]
    rfl
  rw [finishAction, hrest]
  exact LifeTakenUp.lifeKept
    (s := { w with stepNo := w.stepNo + 1, frameIdx := 0, waiting := false, delayOn := false }) htakenUp
    (hact.trans hactive)

theorem sequencerAction_life {s t : State} {i : Instr} (hrun : RunningOk s) (hactive : s.active = true)
    (hi : hostOpOf s.lOp = some i) (h : sequencerAction s = .next t) : LifeKept i s.life t := by
  cases sequencerAction_acted h with
  | stays _ hpoint =>
    obtain ⟨-, hact, -, -, -, -, hlife, -⟩ := hpoint
    exact .of_active (hact.trans hactive) fun _ => hlife
  | frame w _ _ _ hw =>
    obtain ⟨-, hact, -, -, -, -, hlife, -⟩ := hw
    exact .of_active (t := nextFrame w) (hact.trans hactive) fun _ => hlife
  | finishes w j r hw _ htodo hj => exact hrun.finishAction_life hactive hi hw htodo hj
  | aborts w e _ _ hcode =>
    have hne : e ≠ .ok := by rcases hcode with rfl | ⟨rfl, -⟩ <;> decide
    exact ⟨nofun, fun _ hok => absurd hok hne, fun _ _ => rfl⟩

theorem step_life {s t : State} {i : Instr} (hinv : Inv s) (hactive : s.active = true) (hrst : s.nextInput.rstN = true)
    (hi : hostOpOf s.lOp = some i) (h : step s = .next t) : LifeKept i s.life t := by
  obtain ⟨u, v, hu, hv, rfl⟩ := step_phases hrst h
  have hrun := (hostPhase_inv (takeInput_inv hinv) hu).running
  obtain ⟨⟨hact, -, -, -, -, -, -, -, -, hlife, -⟩, hlOp, -⟩ := hostPhase_running (s := s.takeInput) hactive hu
  replace hact : u.active = true := hact.trans hactive
  have hkept : LifeKept i s.life v := by
    rcases sequencerPhase_cases hv with hv | rfl
    · exact hlife ▸ sequencerAction_life (hrun hact) hact (hlOp ▸ hi) hv
    · exact .of_active hact fun _ => hlife
  exact ⟨hkept.running, hkept.ok, hkept.aborted⟩

/-- While INIT runs, `lifeWhile` leaves one STATE at each step. -/
theorem RunningOk.init_life {s : State} (h : RunningOk s) (hi : hostOpOf s.lOp = some .init) :
    s.life = if s.stepNo < 8 then .hardwareReset else .configuring := by
  obtain ⟨-, -, hlife, -⟩ := h
  simpa only [lifeWhile, hi, beq_iff_eq] using hlife

/-- Settles O60: INIT's STATE is part of the invariant; no other action list writes STATE between two actions. -/
theorem stateWhileRunning : Obligations.StateWhileRunning := by
  intro i s t hinv hactive hrst hi h
  have hlife := step_life hinv hactive hrst hi h
  refine ⟨fun hne hrun => hlife.running hrun hne, fun hinit hrun => ?_, hlife.ok, hlife.aborted⟩
  obtain ⟨hlOp, -⟩ := latchedArgumentsFixedWhileActive s t hactive hrst h
  exact ((stepKeepsInvariant s t hinv h).running hrun).init_life (hlOp ▸ hinit ▸ hi)

end Sys2Proof.Machine
end

section
/-! PROOFS. The image transform (R241-R243): what it does to the row and the byte-column of an image index, the permutation of the
image indexes that it is, the loop whose order it gives, and the byte that a data frame of an image RAM write reads and sends. -/

namespace Sys2Proof.Machine

/-! ### Row and byte-column of an image index (R241, R242) -/

theorem div_height_lt {p : Params} {k : Nat} (hheight : 1 ≤ p.height) (hk : k < p.imgBytes) : k / p.height < p.width / 8 := by
  rwa [Params.imgBytes, Nat.mul_comm, ← Nat.div_lt_iff_lt_mul hheight] at hk

/-- The transform keeps the row of an image index. -/
theorem imageIndex_mod_height (p : Params) (k : Nat) : imageIndex p k % p.height = k % p.height := by
  rw [imageIndex, Nat.add_mul_mod_self_right, Nat.mod_mod]

/-- The transform mirrors the byte-column of an image index. -/
theorem imageIndex_div_height {p : Params} (k : Nat) (hheight : 1 ≤ p.height) :
    imageIndex p k / p.height = p.width / 8 - 1 - k / p.height := by
  rw [imageIndex, Nat.add_mul_div_right _ _ hheight, Nat.div_eq_of_lt (Nat.mod_lt k hheight), Nat.zero_add]

/-- The transform of the index at row `i` of byte-column `c`. -/
theorem imageIndex_column_row {p : Params} {i : Nat} (c : Nat) (hi : i < p.height) :
    imageIndex p (p.height * c + i) = i + (p.width / 8 - 1 - c) * p.height := by
  rw [imageIndex, Nat.mul_add_mod, Nat.mod_eq_of_lt hi, Nat.mul_add_div (Nat.zero_lt_of_lt hi), Nat.div_eq_of_lt hi, Nat.add_zero]

/-- A mirrored byte-column is one of the CB there are. -/
theorem imageIndex_lt {p : Params} {k : Nat} (hheight : 1 ≤ p.height) (hk : k < p.imgBytes) : imageIndex p k < p.imgBytes := by
  rw [Params.imgBytes, Nat.mul_comm, ← Nat.div_lt_iff_lt_mul hheight, imageIndex_div_height k hheight]
  exact Nat.sub_one_sub_lt_of_lt (div_height_lt hheight hk)

/-- The row is kept twice, the byte-column mirrored twice. -/
theorem imageIndex_imageIndex {p : Params} {k : Nat} (hheight : 1 ≤ p.height) (hk : k < p.imgBytes) :
    imageIndex p (imageIndex p k) = k := by
  have hmirror : p.width / 8 - 1 - (p.width / 8 - 1 - k / p.height) = k / p.height :=
    Nat.sub_sub_self (Nat.le_sub_one_of_lt (div_height_lt hheight hk))
  rw [imageIndex, imageIndex_mod_height, imageIndex_div_height k hheight, hmirror, Nat.mod_add_div']

/-- The second closed form of R241, over the integers: its terms may exceed the index. -/
theorem imageIndex_linear {p : Params} {k : Nat} (hheight : 1 ≤ p.height) (hk : k < p.imgBytes) :
    (imageIndex p k : Int) = ((p.width / 8 : Nat) - 1) * p.height + k - 2 * p.height * (k / p.height : Nat) := by
  have hcolumn := div_height_lt hheight hk
  have hrow : ((k % p.height : Nat) : Int) = k - (k / p.height : Nat) * p.height := by
    rw [eq_sub_iff_add_eq]
    exact_mod_cast Nat.mod_add_div' k p.height
  have hmirror : ((p.width / 8 - 1 - k / p.height : Nat) : Int) = (p.width / 8 : Nat) - 1 - (k / p.height : Nat) := by omega
  rw [imageIndex, Nat.cast_add, Nat.cast_mul, hrow, hmirror]
  ring

/-! ### The list of the image indexes, as a permutation and as a loop -/

/-- A map of `range n` into itself that is its own inverse there permutes it. -/
theorem map_range_perm_of_involutive {n : Nat} {f : Nat → Nat} (hlt : ∀ k < n, f k < n) (hinv : ∀ k < n, f (f k) = k) :
    ((List.range n).map f).Perm (List.range n) := by
  have hnodup : ((List.range n).map f).Nodup := by
    refine List.Nodup.map_on (fun a ha b hb hab => ?_) List.nodup_range
    rw [List.mem_range] at ha hb
    rw [← hinv a ha, hab, hinv b hb]
  refine (List.perm_ext_iff_of_nodup hnodup List.nodup_range).mpr fun k => ?_
  simp only [List.mem_map, List.mem_range]
  constructor
  · rintro ⟨j, hj, rfl⟩
    exact hlt j hj
  · exact fun hk => ⟨f k, hlt k hk, hinv k hk⟩

/-- Settles O51: the transform keeps rows and mirrors byte-columns, so it is its own inverse. -/
theorem imageIndexBijection : Obligations.ImageIndexBijection := by
  intro p hvalid
  obtain ⟨-, -, -, hheight, -⟩ := p.valid_iff.mp hvalid
  exact ⟨fun k hk => ⟨imageIndex_lt hheight hk, imageIndex_imageIndex hheight hk⟩,
    map_range_perm_of_involutive (fun _ => imageIndex_lt hheight) fun _ => imageIndex_imageIndex hheight⟩

/-- A range of `h * n` numbers is `n` runs of `h` numbers. -/
theorem range_mul_eq_flatMap (h n : Nat) :
    List.range (h * n) = (List.range n).flatMap fun c => (List.range h).map fun i => h * c + i := by
  induction n with
  | zero => rfl
  | succ n ih => rw [Nat.mul_succ, List.range_add, ih, List.range_succ, List.flatMap_append, List.flatMap_singleton]

theorem reverse_range_eq_map (n : Nat) : (List.range n).reverse = (List.range n).map (n - 1 - ·) := by
  rw [List.range_eq_range', List.reverse_range', Nat.zero_add, List.range_eq_range']

/-- Run `c` of the indexes is byte-column `CB - 1 - c`. -/
theorem map_imageIndex_range (p : Params) :
    (List.range p.imgBytes).map (imageIndex p)
      = (List.range (p.width / 8)).reverse.flatMap fun j => (List.range p.height).map fun i => i + j * p.height := by
  rw [Params.imgBytes, range_mul_eq_flatMap, List.map_flatMap, reverse_range_eq_map, List.flatMap_map]
  refine List.flatMap_congr fun c _ => ?_
  rw [List.map_map]
  exact List.map_congr_left fun i hi => imageIndex_column_row c (List.mem_range.mp hi)

/-! ### The image byte of a data frame (R241, R243) -/

/-- Data frame `k` of an image RAM write reads one byte and sends it, whatever follows the frame. -/
theorem imageWrite_dataFrame {s : State} {b : Byte} {a : Args} {r : List Item} {i : Instr} {k : Nat}
    (htodo : s.todo = .cmd b a :: r) (hsource : a.source = .image) (hi : i = .writeRamBw ∨ i = .writeRamRed)
    (hidx : s.frameIdx = k + 1) (hk : k < s.cfg.imgBytes) :
    ∃ t, exec i s = .next t ∧ t.imgReads = imageAddr s.lImgBase (imageIndex s.cfg k) :: s.imgReads
      ∧ t.log = .frame .data [s.mem.read (imageAddr s.lImgBase (imageIndex s.cfg k)).toNat] :: s.log := by
  obtain ⟨bank, hbank⟩ : ∃ bank, exec i s = sendCommand bank .image s := by
    rcases hi with rfl | rfl
    · exact ⟨_, exec_imageWrite htodo hsource (.inl ⟨rfl, rfl⟩)⟩
    · exact ⟨_, exec_imageWrite htodo hsource (.inr ⟨rfl, rfl⟩)⟩
  have hdue : s.frameIdx ≤ FrameData.image.count s.cfg := hidx ▸ hk
  refine ⟨_, hbank.trans (sendCommand_eq_afterFrame hdue), ?_⟩
  obtain ⟨hlog, hreads, -⟩ := afterFrame_log (FrameData.image.count s.cfg) (sendDueFrame bank .image s)
  rw [hlog, hreads, sendDueFrame_succ hidx]
  exact ⟨rfl, rfl⟩

/-- Settles O52: the indexes in the loop's order, the two closed forms, the closed form evaluated at the default panel, and the
byte of a data frame. -/
theorem imageIndexFollowsTheLoop : Obligations.ImageIndexFollowsTheLoop := by
  refine ⟨fun p hvalid => ?_, fun p hwidth hheight => ?_, fun s b a r i k => imageWrite_dataFrame⟩
  · obtain ⟨-, -, -, hheight, -⟩ := p.valid_iff.mp hvalid
    exact ⟨map_imageIndex_range p, fun k hk => ⟨rfl, imageIndex_linear hheight hk⟩⟩
  · simp [imageIndex, hwidth, hheight]

end Sys2Proof.Machine
end

section
/-! PROOFS. The outcomes that make no line event (R261-R265, R271): an operation whose start check fails, and block reset, whatever
was going on. -/

namespace Sys2Proof.Machine

/-! ### The start checks that fail (R263) -/

theorem accepts_iff {op : BitVec 4} {i : Instr} {x : LifeState} (hi : hostOpOf op = some i) :
    accepts op x = true ↔ x ∈ acceptedIn i := by
  refine ⟨fun h => ?_, accepts_of_acceptedIn hi⟩
  have hop : legalOp op = true := by simp [legalOp, hi]
  induction op, hop using legalOp_cases <;> cases hi
  case reset | init => cases x <;> decide
  all_goals simpa [accepts, acceptedIn, or_assoc] using h

/-- The one state that accepts an image operation (R203). -/
theorem mem_acceptedIn_of_takesImage {i : Instr} (h : takesImage i = true) : LifeState.lutLoaded ∈ acceptedIn i := by
  cases i
  case display | displayBase | displayPartial => exact List.mem_singleton_self _
  all_goals cases h

theorem startChecks_notAccepted {op : BitVec 4} {i : Instr} {s : State} (hi : hostOpOf op = some i)
    (hlife : s.life ∉ acceptedIn i) : startChecks op (latch op s) = some .notInitialized := by
  have haccepts : accepts op s.life = false := by rwa [← Bool.not_eq_true, accepts_iff hi]
  simp [startChecks, latch, legalOp, hi, haccepts]

/-- Of an image operation in LUT_LOADED only the length is left to check: the empty image first, then the size. -/
theorem startChecks_image {op : BitVec 4} {i : Instr} {s : State} (hi : hostOpOf op = some i) (himage : takesImage i = true)
    (hlife : s.life = .lutLoaded) :
    startChecks op (latch op s) = if s.imgLen = 0#32 then some .noop
      else if s.imgLen.toNat = s.cfg.imgBytes then none else some .invalidBufferSize := by
  have haccepts : accepts op s.life = true := (accepts_iff hi).mpr (hlife ▸ mem_acceptedIn_of_takesImage himage)
  have hlen : s.imgLen.toNat = 0 ↔ s.imgLen = 0#32 := (BitVec.toNat_eq (y := 0#32)).symm
  simp [startChecks, latch, legalOp, hi, haccepts, isImageOp_eq_takesImage hi, himage, hlen]

/-- The operation has ended with result `r` and DONE set, and nothing else that can be observed has changed (R263). -/
def EndsWithNoEffect (r : ResultCode) (s t : State) : Prop :=
  t.result = r ∧ t.done = true ∧ t.active = false ∧ t.opCur = none ∧ t.stepNo = 0
    ∧ t.life = s.life ∧ t.lutMode = s.lutMode ∧ t.dropped = s.dropped ∧ t.polls = s.polls ∧ t.delayCnt = s.delayCnt
    ∧ sameRegisters s t ∧ sameOutside s t ∧ sameTrace s t

/-- The first start check that fails ends the operation in the clock of acceptance, from the latched state (R45, R263). -/
theorem exec_startCheck_fails {op : BitVec 4} {i : Instr} {s : State} {r : ResultCode} (hi : hostOpOf op = some i)
    (hidle : s.active = false) (hcheck : startChecks op (latch op s) = some r) :
    ∃ t, exec i s = .next t ∧ EndsWithNoEffect r s t := by
  have haccept : acceptCommand op (planOf op) s = complete r (latch op s) := by simp [acceptCommand, hidle, hcheck]
  obtain ⟨hregs, hout, htrace⟩ := acceptCommand_sends_nothing op (planOf op) s
  have hexec := exec_hostOp op i hi s
  rw [haccept] at hexec hregs hout htrace
  exact ⟨_, hexec, rfl, rfl, rfl, rfl, rfl, rfl, rfl, rfl, rfl, rfl, hregs, hout, htrace⟩

/-- Settles O19: the acceptance table is the second start check, and latching the arguments leaves STATE. -/
theorem notAcceptedOperationReportsNotInitialized : Obligations.NotAcceptedOperationReportsNotInitialized := by
  intro op i s hi hidle hlife
  exact exec_startCheck_fails hi hidle (startChecks_notAccepted hi hlife)

/-- Settles O20: LUT_LOADED accepts an image operation, and the first check of the length fails. -/
theorem emptyImageIsNoop : Obligations.EmptyImageIsNoop := by
  intro op i s hi himage hidle hlife hlen
  exact exec_startCheck_fails hi hidle ((startChecks_image hi himage hlife).trans (if_pos hlen))

/-- Settles O21: the length passes the check of the empty image and fails the one of the size. -/
theorem wrongLengthIsInvalidBufferSize : Obligations.WrongLengthIsInvalidBufferSize := by
  intro op i s hi himage hidle hlife hne hsize
  have hwrong : s.imgLen.toNat ≠ s.cfg.imgBytes := hsize
  have hcheck := startChecks_image hi himage hlife
  rw [if_neg hne, if_neg hwrong] at hcheck
  exact exec_startCheck_fails hi hidle hcheck

/-! ### Block reset (R271, R302) -/

/-- Settles O9: a clock with rst_n = 0 is block reset alone, after the pins and the host's memory writes are taken. -/
theorem blockResetWins : Obligations.BlockResetWins := by
  intro s hvalid hrst
  refine ⟨_, step_blockReset hvalid hrst, ?_, rfl, rfl, rfl, rfl, rfl, rfl, rfl, rfl, rfl⟩
  simp [blockReset, State.takeInput, hrst]

end Sys2Proof.Machine
end

section
/-! PROOFS. Block reset's values (R300): what the registers and lines show after it, from whatever state, and that the reset state
meets the invariant. -/

namespace Sys2Proof.Machine

/-! ### What a read depends on -/

/-- The registers, STATUS and the parameters are all that a read of the register window can see (R34). -/
theorem readReg_congr (off : Nat) {s t : State} (hcfg : t.cfg = s.cfg) (hstatus : statusWord t = statusWord s)
    (hregs : sameRegisters s t) : readReg off t = readReg off s := by
  obtain ⟨hwx, hwy, hcur, hcol, hlut, hbase, hlen, hie⟩ := hregs
  unfold readReg
  split
  · exact hstatus
  · exact hwx
  · exact hwy
  · exact hcur
  · rw [hcol]
  · rw [hlut]
  · exact hbase
  · exact hlen
  · rw [hie]
  · rw [hcfg]
  · rfl

/-! ### The registers after block reset -/

/-- The synchroniser's flip-flops are reset to 1, so with at least one of them STATUS.BUSY shows 1, whatever busy_i is. -/
theorem blockReset_busySync {s : State} (hstages : 1 ≤ s.cfg.busySyncStages) : (blockReset s).busySync = true := by
  have hne : s.cfg.busySyncStages ≠ 0 := Nat.one_le_iff_ne_zero.mp hstages
  change (List.replicate s.cfg.busySyncStages true).getLastD s.busyI = true
  rw [List.getLastD_eq_getLast?, List.getLast?_replicate, if_neg hne, Option.getD_some]

theorem blockReset_statusWord {s : State} (hstages : 1 ≤ s.cfg.busySyncStages) :
    statusWord (blockReset s) = 0x00000002#32 := by
  rw [statusWord, blockReset_busySync hstages]
  simp [blockReset, State.resetOf, ResultCode.code, LifeState.code, Lut.bit]

/-- The reset state is one that block reset leaves. -/
theorem blockReset_resetOf (p : Params) : blockReset (State.resetOf p) = State.resetOf p := rfl

theorem resetOf_statusWord {p : Params} (hstages : 1 ≤ p.busySyncStages) : statusWord (State.resetOf p) = 0x00000002#32 := by
  rw [← blockReset_resetOf]
  exact blockReset_statusWord hstages

/-- The levels of the pins, the memory and the inputs, which block reset keeps, show in no register. -/
theorem blockReset_readReg (off : Nat) {s : State} (hstages : 1 ≤ s.cfg.busySyncStages) :
    readReg off (blockReset s) = readReg off (State.resetOf s.cfg) :=
  readReg_congr off rfl ((blockReset_statusWord hstages).trans (resetOf_statusWord hstages).symm)
    ⟨rfl, rfl, rfl, rfl, rfl, rfl, rfl, rfl⟩

theorem resetOf_readReg_zero (p : Params) :
    ∀ off ∈ [0x00, 0x08, 0x0C, 0x10, 0x14, 0x18, 0x1C, 0x20, 0x24], readReg off (State.resetOf p) = 0#32 := by
  simp only [List.forall_mem_cons]
  exact ⟨rfl, rfl, rfl, rfl, rfl, rfl, rfl, rfl, rfl, nofun⟩

/-- Settles O7: the table of R300 field by field, STATUS from the synchroniser's reset value; a clock with rst_n = 0 is block
reset, after which every register reads as in the reset state. -/
theorem resetValues : Obligations.ResetValues := by
  intro p hvalid hstages
  refine ⟨resetOf_statusWord hstages, resetOf_readReg_zero p, rfl, rfl, rfl, rfl, rfl, rfl, rfl, rfl, rfl, rfl, rfl, rfl, rfl,
    rfl, rfl, rfl, rfl, rfl, rfl, rfl, rfl, rfl, ?_⟩
  rintro s rfl hrst
  have hlatches : sameLatches (State.resetOf s.cfg) (blockReset s.takeInput) := ⟨rfl, rfl, rfl, rfl, rfl, rfl, rfl, rfl⟩
  exact ⟨_, step_blockReset hvalid hrst, fun off => blockReset_readReg off hstages, rfl, rfl, hlatches, rfl, rfl, rfl, rfl, rfl,
    rfl, rfl⟩

/-! ### The invariant -/

theorem resetOf_idleOk (p : Params) : IdleOk (State.resetOf p) := ⟨rfl, rfl, rfl, rfl, rfl, rfl, nofun, nofun⟩

/-- Settles O8: the bounds of the parameters are `Inv`'s first part, and the reset state is idle. -/
theorem resetMeetsInvariant : Obligations.ResetMeetsInvariant := by
  intro p hvalid
  exact {
    cfg_valid := hvalid
    mem_wf := reset_mem_wf p
    sync_length := List.length_replicate
    lines_idle := ⟨rfl, rfl, rfl, rfl⟩
    idle := fun _ => resetOf_idleOk p
    running := nofun }

end Sys2Proof.Machine
end
